-- ==== Sys2Proof/Word.lean ====
section
/-! DEFINITION. The two word types of the machine: the 8-bit byte that every access moves
(20_memory.md R50, R59) and the 16-bit program address (10_state.md R16). -/

namespace Sys2Proof

/-- A byte: the width of every register, operand and memory access. -/
abbrev Byte := BitVec 8

/-- A 16-bit quantity: the program counter, a register pair, a program or data address. -/
abbrev Word := BitVec 16

end Sys2Proof
end

