-- ==== Sys2Proof/Config.lean ====
section
/-! DEFINITION. What the documents leave to the part, the ROM image, the board or the reader
(00_scope.md R6, 93_implementation_defined.md section 2), as plain data, and the one source of
free values. The parameters are a field of the state that no step changes, so a statement about
every state holds for every choice of them. -/

namespace Sys2Proof

/-- The clock sources that Smart Option 003FH.1-0 selects (60_exceptions.md R270, R310). -/
inductive Oscillator where
  | internalRc3200 | internalRc500 | externalRc | crystal
deriving DecidableEq, Repr

/-- The low-voltage reset levels of the Smart Option (60_exceptions.md R310): 2.3, 3.0 and 3.9 V.
The level is a voltage, so nothing a program can do depends on it. -/
inductive LvrLevel where
  | v23 | v30 | v39
deriving DecidableEq, Repr

/-- How many oscillator periods a step lasts (60_exceptions.md R272, TIME_MODEL). -/
inductive TimeModel where
  | free | exact
deriving DecidableEq, Repr

/-- The parameters of 00_scope.md R6 and 93_implementation_defined.md section 2. -/
structure Params where
  /-- ROM_SIZE: bytes of program memory, 2048 or 4096 (65536 for the generic core of R62). -/
  romSize : Nat
  /-- ADC_CHANNELS: how many of ADC0 to ADC8 are connected, 9 or 3. -/
  adcChannels : Nat
  /-- The clock source, a Smart Option latch (R310). -/
  oscillator : Oscillator
  /-- FOSC: the oscillator frequency in hertz (R6, R270, R310): 3,200,000 or 500,000 for the internal
  RC, 4,000,000 for the external RC, 1,000,000 to 10,000,000 for a crystal. Time is counted in
  oscillator periods (R272), so no step reads it; a claim in seconds divides by it (log 34). -/
  fosc : Nat
  /-- LVR_ENABLE, Smart Option 003EH.7 (R310, R324). -/
  lvrEnable : Bool
  /-- The LVR level, a Smart Option latch (R310). -/
  lvrLevel : LvrLevel
  /-- HAS_DATA_MEM: whether the data space of LDE exists (R54). -/
  hasDataMem : Bool
  /-- Whether program memory accepts the store forms of LDC; false on every part in scope
  (R53, R138). The model's own parameter, log 15. -/
  progWritable : Bool
  /-- PEND_WHEN_DISABLED (R234 (d)). -/
  pendWhenDisabled : Bool
  /-- WAKE_NEEDS_GIE (R243 (c)). -/
  wakeNeedsGie : Bool
  /-- T0_PERIOD: true for T0DATA + 1 ticks, false for T0DATA ticks (R283 (b)). -/
  t0PeriodPlusOne : Bool
  /-- TIME_MODEL (R272). -/
  timeModel : TimeModel
  /-- Cycles of RET under EXACT: 8 or 10 (R340). -/
  retCycles : Nat
  /-- Cycles of IRET under EXACT: 10 or 12 (R340). -/
  iretCycles : Nat
  /-- Cycles of interrupt entry under EXACT, which the source does not give (R237, R272). -/
  entryCycles : Nat
deriving DecidableEq, Repr

/-- The parameters of `State.reset`: an S3C9454 with the default Smart Option FFH, which enables
the LVR and the internal RC oscillator (R55, R310), and the recommended values of
93_implementation_defined.md section 2. DESIGN CHOICE where that section recommends none
(log 7). -/
def Params.standard : Params where
  romSize := 4096
  adcChannels := 9
  oscillator := .internalRc3200
  fosc := 3200000
  lvrEnable := true
  lvrLevel := .v23
  hasDataMem := false
  progWritable := false
  pendWhenDisabled := true
  wakeNeedsGie := false
  t0PeriodPlusOne := true
  timeModel := .free
  retCycles := 8
  iretCycles := 10
  entryCycles := 14

/-- `any8` of 00_scope.md R11: the value of the n-th draw, about which nothing can be proved
(log 9). `anybit` is one of its bits. -/
opaque Config.freeByte : Nat → Byte

/-- GIE_BIT: the bit of SYM that is the global interrupt enable (90_conflicts.md C1,
92_eei_decisions.md D6). -/
def Config.gieBit : Nat := 2

end Sys2Proof
end

