-- ==== Sys2Proof/Syntax.lean ====
section
/-! DEFINITION. The abstract syntax: one constructor per row of spec/opcode_table.json
(30_encoding.md R100 to R112). A constructor's suffix is the row's operand column, destination
first, in the symbols of 00_scope.md R10. -/

namespace Sys2Proof

/-- The number n of a working register Rn, a 4-bit field (30_encoding.md R102 (a)). -/
abbrev WReg := BitVec 4

/-- The number p / 2 of a working register pair RRp: bits 3-1 of the pair nibble, so a pair is
even by its type (30_encoding.md R103 (h)). -/
abbrev Pair := BitVec 3

/-- The sixteen condition codes (30_encoding.md R105), named by the first mnemonic of the table;
ULT is `c`, UGE is `nc`, EQ is `z` and NE is `nz`. -/
inductive Cond where
  | f | lt | le | ule | ov | mi | z | c | t | ge | gt | ugt | nov | pl | nz | nc
deriving DecidableEq, Repr

/-- The instructions. -/
inductive Instr where
  /-- `02` ADD r,r (R162). -/
  | add_r_r (dst : WReg) (src : WReg)
  /-- `03` ADD r,Ir (R162). -/
  | add_r_Ir (dst : WReg) (src : WReg)
  /-- `04` ADD R,R (R162). -/
  | add_R_R (dst : Byte) (src : Byte)
  /-- `05` ADD R,IR (R162). -/
  | add_R_IR (dst : Byte) (src : Byte)
  /-- `06` ADD R,IM (R162). -/
  | add_R_IM (dst : Byte) (imm : Byte)
  /-- `12` ADC r,r (R161). -/
  | adc_r_r (dst : WReg) (src : WReg)
  /-- `13` ADC r,Ir (R161). -/
  | adc_r_Ir (dst : WReg) (src : WReg)
  /-- `14` ADC R,R (R161). -/
  | adc_R_R (dst : Byte) (src : Byte)
  /-- `15` ADC R,IR (R161). -/
  | adc_R_IR (dst : Byte) (src : Byte)
  /-- `16` ADC R,IM (R161). -/
  | adc_R_IM (dst : Byte) (imm : Byte)
  /-- `22` SUB r,r (R167). -/
  | sub_r_r (dst : WReg) (src : WReg)
  /-- `23` SUB r,Ir (R167). -/
  | sub_r_Ir (dst : WReg) (src : WReg)
  /-- `24` SUB R,R (R167). -/
  | sub_R_R (dst : Byte) (src : Byte)
  /-- `25` SUB R,IR (R167). -/
  | sub_R_IR (dst : Byte) (src : Byte)
  /-- `26` SUB R,IM (R167). -/
  | sub_R_IM (dst : Byte) (imm : Byte)
  /-- `32` SBC r,r (R166). -/
  | sbc_r_r (dst : WReg) (src : WReg)
  /-- `33` SBC r,Ir (R166). -/
  | sbc_r_Ir (dst : WReg) (src : WReg)
  /-- `34` SBC R,R (R166). -/
  | sbc_R_R (dst : Byte) (src : Byte)
  /-- `35` SBC R,IR (R166). -/
  | sbc_R_IR (dst : Byte) (src : Byte)
  /-- `36` SBC R,IM (R166). -/
  | sbc_R_IM (dst : Byte) (imm : Byte)
  /-- `42` OR r,r (R182). -/
  | or_r_r (dst : WReg) (src : WReg)
  /-- `43` OR r,Ir (R182). -/
  | or_r_Ir (dst : WReg) (src : WReg)
  /-- `44` OR R,R (R182). -/
  | or_R_R (dst : Byte) (src : Byte)
  /-- `45` OR R,IR (R182). -/
  | or_R_IR (dst : Byte) (src : Byte)
  /-- `46` OR R,IM (R182). -/
  | or_R_IM (dst : Byte) (imm : Byte)
  /-- `52` AND r,r (R180). -/
  | and_r_r (dst : WReg) (src : WReg)
  /-- `53` AND r,Ir (R180). -/
  | and_r_Ir (dst : WReg) (src : WReg)
  /-- `54` AND R,R (R180). -/
  | and_R_R (dst : Byte) (src : Byte)
  /-- `55` AND R,IR (R180). -/
  | and_R_IR (dst : Byte) (src : Byte)
  /-- `56` AND R,IM (R180). -/
  | and_R_IM (dst : Byte) (imm : Byte)
  /-- `62` TCM r,r (R205). -/
  | tcm_r_r (dst : WReg) (src : WReg)
  /-- `63` TCM r,Ir (R205). -/
  | tcm_r_Ir (dst : WReg) (src : WReg)
  /-- `64` TCM R,R (R205). -/
  | tcm_R_R (dst : Byte) (src : Byte)
  /-- `65` TCM R,IR (R205). -/
  | tcm_R_IR (dst : Byte) (src : Byte)
  /-- `66` TCM R,IM (R205). -/
  | tcm_R_IM (dst : Byte) (imm : Byte)
  /-- `72` TM r,r (R206). -/
  | tm_r_r (dst : WReg) (src : WReg)
  /-- `73` TM r,Ir (R206). -/
  | tm_r_Ir (dst : WReg) (src : WReg)
  /-- `74` TM R,R (R206). -/
  | tm_R_R (dst : Byte) (src : Byte)
  /-- `75` TM R,IR (R206). -/
  | tm_R_IR (dst : Byte) (src : Byte)
  /-- `76` TM R,IM (R206). -/
  | tm_R_IM (dst : Byte) (imm : Byte)
  /-- `A2` CP r,r (R163). -/
  | cp_r_r (dst : WReg) (src : WReg)
  /-- `A3` CP r,Ir (R163). -/
  | cp_r_Ir (dst : WReg) (src : WReg)
  /-- `A4` CP R,R (R163). -/
  | cp_R_R (dst : Byte) (src : Byte)
  /-- `A5` CP R,IR (R163). -/
  | cp_R_IR (dst : Byte) (src : Byte)
  /-- `A6` CP R,IM (R163). -/
  | cp_R_IM (dst : Byte) (imm : Byte)
  /-- `B2` XOR r,r (R183). -/
  | xor_r_r (dst : WReg) (src : WReg)
  /-- `B3` XOR r,Ir (R183). -/
  | xor_r_Ir (dst : WReg) (src : WReg)
  /-- `B4` XOR R,R (R183). -/
  | xor_R_R (dst : Byte) (src : Byte)
  /-- `B5` XOR R,IR (R183). -/
  | xor_R_IR (dst : Byte) (src : Byte)
  /-- `B6` XOR R,IM (R183). -/
  | xor_R_IM (dst : Byte) (imm : Byte)
  /-- `00` DEC R (R164). -/
  | dec_R (dst : Byte)
  /-- `01` DEC IR (R164). -/
  | dec_IR (dst : Byte)
  /-- `10` RLC R (R211). -/
  | rlc_R (dst : Byte)
  /-- `11` RLC IR (R211). -/
  | rlc_IR (dst : Byte)
  /-- `20` INC R (R165). -/
  | inc_R (dst : Byte)
  /-- `21` INC IR (R165). -/
  | inc_IR (dst : Byte)
  /-- `50` POP R (R144). -/
  | pop_R (dst : Byte)
  /-- `51` POP IR (R144). -/
  | pop_IR (dst : Byte)
  /-- `60` COM R (R181). -/
  | com_R (dst : Byte)
  /-- `61` COM IR (R181). -/
  | com_IR (dst : Byte)
  /-- `70` PUSH R (R145). -/
  | push_R (src : Byte)
  /-- `71` PUSH IR (R145). -/
  | push_IR (src : Byte)
  /-- `90` RL R (R210). -/
  | rl_R (dst : Byte)
  /-- `91` RL IR (R210). -/
  | rl_IR (dst : Byte)
  /-- `B0` CLR R (R131). -/
  | clr_R (dst : Byte)
  /-- `B1` CLR IR (R131). -/
  | clr_IR (dst : Byte)
  /-- `C0` RRC R (R213). -/
  | rrc_R (dst : Byte)
  /-- `C1` RRC IR (R213). -/
  | rrc_IR (dst : Byte)
  /-- `D0` SRA R (R214). -/
  | sra_R (dst : Byte)
  /-- `D1` SRA IR (R214). -/
  | sra_IR (dst : Byte)
  /-- `E0` RR R (R212). -/
  | rr_R (dst : Byte)
  /-- `E1` RR IR (R212). -/
  | rr_IR (dst : Byte)
  /-- `rE` INC r (R165). -/
  | inc_r (dst : WReg)
  /-- `30` JP IRR (R192). -/
  | jp_IRR (a : Byte)
  /-- `ccD` JP cc,DA (R192). -/
  | jp_cc_DA (cc : Cond) (da : Word)
  /-- `ccB` JR cc,RA (R193). -/
  | jr_cc_RA (cc : Cond) (off : Byte)
  /-- `F4` CALL IRR (R190). -/
  | call_IRR (a : Byte)
  /-- `F6` CALL DA (R190). -/
  | call_DA (da : Word)
  /-- `rC` LD r,IM (R132). -/
  | ld_r_IM (dst : WReg) (imm : Byte)
  /-- `r8` LD r,R (R132). -/
  | ld_r_R (dst : WReg) (src : Byte)
  /-- `r9` LD R,r (R132). -/
  | ld_R_r (dst : Byte) (src : WReg)
  /-- `C7` LD r,Ir (R133). -/
  | ld_r_Ir (dst : WReg) (src : WReg)
  /-- `D7` LD Ir,r (R133). -/
  | ld_Ir_r (dst : WReg) (src : WReg)
  /-- `E4` LD R,R (R134). -/
  | ld_R_R (dst : Byte) (src : Byte)
  /-- `E5` LD R,IR (R134). -/
  | ld_R_IR (dst : Byte) (src : Byte)
  /-- `E6` LD R,IM (R134). -/
  | ld_R_IM (dst : Byte) (imm : Byte)
  /-- `D6` LD IR,IM (R135). -/
  | ld_IR_IM (dst : Byte) (imm : Byte)
  /-- `F5` LD IR,R (R135). -/
  | ld_IR_R (dst : Byte) (src : Byte)
  /-- `87` LD r,x[r] (R136). -/
  | ld_r_X (dst : WReg) (x : Byte) (idx : WReg)
  /-- `97` LD x[r],r (R136). -/
  | ld_X_r (x : Byte) (idx : WReg) (src : WReg)
  /-- `C3` LDC r,Irr (R137). -/
  | ldc_r_Irr (dst : WReg) (p : Pair)
  /-- `D3` LDC Irr,r (R138). -/
  | ldc_Irr_r (p : Pair) (src : WReg)
  /-- `E7` LDC r,XS[rr] (R137). -/
  | ldc_r_XS (dst : WReg) (xs : Byte) (p : Pair)
  /-- `F7` LDC XS[rr],r (R138). -/
  | ldc_XS_r (xs : Byte) (p : Pair) (src : WReg)
  /-- `A7` LDC r,XL[rr] (R137); the pair is not RR0. -/
  | ldc_r_XL (dst : WReg) (xl : Word) (p : Pair)
  /-- `B7` LDC XL[rr],r (R138); the pair is not RR0. -/
  | ldc_XL_r (xl : Word) (p : Pair) (src : WReg)
  /-- `A7` LDC r,DA (R137). -/
  | ldc_r_DA (dst : WReg) (da : Word)
  /-- `B7` LDC DA,r (R138). -/
  | ldc_DA_r (da : Word) (src : WReg)
  /-- `C3` LDE r,Irr (R139). -/
  | lde_r_Irr (dst : WReg) (p : Pair)
  /-- `D3` LDE Irr,r (R139). -/
  | lde_Irr_r (p : Pair) (src : WReg)
  /-- `E7` LDE r,XS[rr] (R139). -/
  | lde_r_XS (dst : WReg) (xs : Byte) (p : Pair)
  /-- `F7` LDE XS[rr],r (R139). -/
  | lde_XS_r (xs : Byte) (p : Pair) (src : WReg)
  /-- `A7` LDE r,XL[rr] (R139); the pair is not RR0. -/
  | lde_r_XL (dst : WReg) (xl : Word) (p : Pair)
  /-- `B7` LDE XL[rr],r (R139); the pair is not RR0. -/
  | lde_XL_r (xl : Word) (p : Pair) (src : WReg)
  /-- `A7` LDE r,DA (R139). -/
  | lde_r_DA (dst : WReg) (da : Word)
  /-- `B7` LDE DA,r (R139). -/
  | lde_DA_r (da : Word) (src : WReg)
  /-- `E2` LDCD r,Irr (R140). -/
  | ldcd_r_Irr (dst : WReg) (p : Pair)
  /-- `E2` LDED r,Irr (R141). -/
  | lded_r_Irr (dst : WReg) (p : Pair)
  /-- `E3` LDCI r,Irr (R142). -/
  | ldci_r_Irr (dst : WReg) (p : Pair)
  /-- `E3` LDEI r,Irr (R143). -/
  | ldei_r_Irr (dst : WReg) (p : Pair)
  /-- `6F` IDLE (R223). -/
  | idle
  /-- `7F` STOP (R227). -/
  | stop
  /-- `8F` DI (R221). -/
  | di
  /-- `9F` EI (R222). -/
  | ei
  /-- `AF` RET (R194). -/
  | ret
  /-- `BF` IRET (R191). -/
  | iret
  /-- `CF` RCF (R225). -/
  | rcf
  /-- `DF` SCF (R226). -/
  | scf
  /-- `EF` CCF (R220). -/
  | ccf
  /-- `FF` NOP (R224). -/
  | nop
deriving DecidableEq, Repr

end Sys2Proof
end

