-- ==== Sys2Proof/WellFormed.lean ====
section
/-! DEFINITION. Which terms of the syntax are instructions. Every field value of every form
decodes (30_encoding.md R107) with one exception: in A7 and B7 the pair nibbles 0000 and 0001
select the direct-address forms, so the long-offset forms cannot name RR0 (R103 (h)). -/

namespace Sys2Proof

/-- A term is an instruction: a long-offset form does not name the pair RR0 (R103 (h)). -/
def Instr.wellFormed : Instr → Bool
  | .add_r_r _ _ => true
  | .add_r_Ir _ _ => true
  | .add_R_R _ _ => true
  | .add_R_IR _ _ => true
  | .add_R_IM _ _ => true
  | .adc_r_r _ _ => true
  | .adc_r_Ir _ _ => true
  | .adc_R_R _ _ => true
  | .adc_R_IR _ _ => true
  | .adc_R_IM _ _ => true
  | .sub_r_r _ _ => true
  | .sub_r_Ir _ _ => true
  | .sub_R_R _ _ => true
  | .sub_R_IR _ _ => true
  | .sub_R_IM _ _ => true
  | .sbc_r_r _ _ => true
  | .sbc_r_Ir _ _ => true
  | .sbc_R_R _ _ => true
  | .sbc_R_IR _ _ => true
  | .sbc_R_IM _ _ => true
  | .or_r_r _ _ => true
  | .or_r_Ir _ _ => true
  | .or_R_R _ _ => true
  | .or_R_IR _ _ => true
  | .or_R_IM _ _ => true
  | .and_r_r _ _ => true
  | .and_r_Ir _ _ => true
  | .and_R_R _ _ => true
  | .and_R_IR _ _ => true
  | .and_R_IM _ _ => true
  | .tcm_r_r _ _ => true
  | .tcm_r_Ir _ _ => true
  | .tcm_R_R _ _ => true
  | .tcm_R_IR _ _ => true
  | .tcm_R_IM _ _ => true
  | .tm_r_r _ _ => true
  | .tm_r_Ir _ _ => true
  | .tm_R_R _ _ => true
  | .tm_R_IR _ _ => true
  | .tm_R_IM _ _ => true
  | .cp_r_r _ _ => true
  | .cp_r_Ir _ _ => true
  | .cp_R_R _ _ => true
  | .cp_R_IR _ _ => true
  | .cp_R_IM _ _ => true
  | .xor_r_r _ _ => true
  | .xor_r_Ir _ _ => true
  | .xor_R_R _ _ => true
  | .xor_R_IR _ _ => true
  | .xor_R_IM _ _ => true
  | .dec_R _ => true
  | .dec_IR _ => true
  | .rlc_R _ => true
  | .rlc_IR _ => true
  | .inc_R _ => true
  | .inc_IR _ => true
  | .pop_R _ => true
  | .pop_IR _ => true
  | .com_R _ => true
  | .com_IR _ => true
  | .push_R _ => true
  | .push_IR _ => true
  | .rl_R _ => true
  | .rl_IR _ => true
  | .clr_R _ => true
  | .clr_IR _ => true
  | .rrc_R _ => true
  | .rrc_IR _ => true
  | .sra_R _ => true
  | .sra_IR _ => true
  | .rr_R _ => true
  | .rr_IR _ => true
  | .inc_r _ => true
  | .jp_IRR _ => true
  | .jp_cc_DA _ _ => true
  | .jr_cc_RA _ _ => true
  | .call_IRR _ => true
  | .call_DA _ => true
  | .ld_r_IM _ _ => true
  | .ld_r_R _ _ => true
  | .ld_R_r _ _ => true
  | .ld_r_Ir _ _ => true
  | .ld_Ir_r _ _ => true
  | .ld_R_R _ _ => true
  | .ld_R_IR _ _ => true
  | .ld_R_IM _ _ => true
  | .ld_IR_IM _ _ => true
  | .ld_IR_R _ _ => true
  | .ld_r_X _ _ _ => true
  | .ld_X_r _ _ _ => true
  | .ldc_r_Irr _ _ => true
  | .ldc_Irr_r _ _ => true
  | .ldc_r_XS _ _ _ => true
  | .ldc_XS_r _ _ _ => true
  | .ldc_r_XL _ _ p => p != 0
  | .ldc_XL_r _ p _ => p != 0
  | .ldc_r_DA _ _ => true
  | .ldc_DA_r _ _ => true
  | .lde_r_Irr _ _ => true
  | .lde_Irr_r _ _ => true
  | .lde_r_XS _ _ _ => true
  | .lde_XS_r _ _ _ => true
  | .lde_r_XL _ _ p => p != 0
  | .lde_XL_r _ p _ => p != 0
  | .lde_r_DA _ _ => true
  | .lde_DA_r _ _ => true
  | .ldcd_r_Irr _ _ => true
  | .lded_r_Irr _ _ => true
  | .ldci_r_Irr _ _ => true
  | .ldei_r_Irr _ _ => true
  | .idle => true
  | .stop => true
  | .di => true
  | .ei => true
  | .ret => true
  | .iret => true
  | .rcf => true
  | .scf => true
  | .ccf => true
  | .nop => true

end Sys2Proof
end

