-- ==== Sys2Proof/Decode.lean ====
section
/-! DEFINITION. Decoding and encoding (30_encoding.md R100 to R112): the bit fields, the length
by the first byte (R104), the decoder by the opcode map (R106), total on any bytes, and the
encoder by the formats (R101). -/

namespace Sys2Proof

/-! ### Bit fields -/

/-- The high nibble of a byte. -/
def hiNibble (b : Byte) : BitVec 4 := b.extractLsb' 4 4

/-- The low nibble of a byte. -/
def loNibble (b : Byte) : BitVec 4 := b.extractLsb' 0 4

/-- The byte with the given high and low nibbles. -/
def nibbles (hi lo : BitVec 4) : Byte := hi ++ lo

/-- Bits 15-8 of a word. -/
def hiByte (w : Word) : Byte := w.extractLsb' 8 8

/-- Bits 7-0 of a word. -/
def loByte (w : Word) : Byte := w.extractLsb' 0 8

/-- The word `hi : lo`, high byte first. -/
def wordOf (hi lo : Byte) : Word := hi ++ lo

/-- Bits 3-1 of the pair nibble: the pair number (R103 (h)). -/
def pairOf (b : BitVec 4) : Pair := b.extractLsb' 1 3

/-- Bit 0 of the pair nibble: data memory rather than program memory (R103 (h)). -/
def spaceOf (b : BitVec 4) : Bool := b.getLsbD 0

/-- The pair nibble of a pair and a space (R103 (h)). -/
def pairNibble (p : Pair) (data : Bool) : BitVec 4 := p ++ BitVec.ofBool data

/-- The 16-bit sign extension of a byte (00_scope.md R11 `sext_16`). -/
def sext16 (b : Byte) : Word := b.signExtend 16

/-- The code of a condition (R105). -/
def Cond.code : Cond → BitVec 4
  | .f => 0x0
  | .lt => 0x1
  | .le => 0x2
  | .ule => 0x3
  | .ov => 0x4
  | .mi => 0x5
  | .z => 0x6
  | .c => 0x7
  | .t => 0x8
  | .ge => 0x9
  | .gt => 0xA
  | .ugt => 0xB
  | .nov => 0xC
  | .pl => 0xD
  | .nz => 0xE
  | .nc => 0xF

/-- The condition of a code: all sixteen are defined (R105). -/
def Cond.ofCode (b : BitVec 4) : Cond :=
  match b with
  | 0x0#4 => .f
  | 0x1#4 => .lt
  | 0x2#4 => .le
  | 0x3#4 => .ule
  | 0x4#4 => .ov
  | 0x5#4 => .mi
  | 0x6#4 => .z
  | 0x7#4 => .c
  | 0x8#4 => .t
  | 0x9#4 => .ge
  | 0xA#4 => .gt
  | 0xB#4 => .ugt
  | 0xC#4 => .nov
  | 0xD#4 => .pl
  | 0xE#4 => .nz
  | _ => .nc

/-! ### Lengths -/

/-- The length of an instruction, 1 to 4 bytes (R101). -/
def Instr.length : Instr → Nat
  | .add_r_r _ _ => 2
  | .add_r_Ir _ _ => 2
  | .add_R_R _ _ => 3
  | .add_R_IR _ _ => 3
  | .add_R_IM _ _ => 3
  | .adc_r_r _ _ => 2
  | .adc_r_Ir _ _ => 2
  | .adc_R_R _ _ => 3
  | .adc_R_IR _ _ => 3
  | .adc_R_IM _ _ => 3
  | .sub_r_r _ _ => 2
  | .sub_r_Ir _ _ => 2
  | .sub_R_R _ _ => 3
  | .sub_R_IR _ _ => 3
  | .sub_R_IM _ _ => 3
  | .sbc_r_r _ _ => 2
  | .sbc_r_Ir _ _ => 2
  | .sbc_R_R _ _ => 3
  | .sbc_R_IR _ _ => 3
  | .sbc_R_IM _ _ => 3
  | .or_r_r _ _ => 2
  | .or_r_Ir _ _ => 2
  | .or_R_R _ _ => 3
  | .or_R_IR _ _ => 3
  | .or_R_IM _ _ => 3
  | .and_r_r _ _ => 2
  | .and_r_Ir _ _ => 2
  | .and_R_R _ _ => 3
  | .and_R_IR _ _ => 3
  | .and_R_IM _ _ => 3
  | .tcm_r_r _ _ => 2
  | .tcm_r_Ir _ _ => 2
  | .tcm_R_R _ _ => 3
  | .tcm_R_IR _ _ => 3
  | .tcm_R_IM _ _ => 3
  | .tm_r_r _ _ => 2
  | .tm_r_Ir _ _ => 2
  | .tm_R_R _ _ => 3
  | .tm_R_IR _ _ => 3
  | .tm_R_IM _ _ => 3
  | .cp_r_r _ _ => 2
  | .cp_r_Ir _ _ => 2
  | .cp_R_R _ _ => 3
  | .cp_R_IR _ _ => 3
  | .cp_R_IM _ _ => 3
  | .xor_r_r _ _ => 2
  | .xor_r_Ir _ _ => 2
  | .xor_R_R _ _ => 3
  | .xor_R_IR _ _ => 3
  | .xor_R_IM _ _ => 3
  | .dec_R _ => 2
  | .dec_IR _ => 2
  | .rlc_R _ => 2
  | .rlc_IR _ => 2
  | .inc_R _ => 2
  | .inc_IR _ => 2
  | .pop_R _ => 2
  | .pop_IR _ => 2
  | .com_R _ => 2
  | .com_IR _ => 2
  | .push_R _ => 2
  | .push_IR _ => 2
  | .rl_R _ => 2
  | .rl_IR _ => 2
  | .clr_R _ => 2
  | .clr_IR _ => 2
  | .rrc_R _ => 2
  | .rrc_IR _ => 2
  | .sra_R _ => 2
  | .sra_IR _ => 2
  | .rr_R _ => 2
  | .rr_IR _ => 2
  | .inc_r _ => 1
  | .jp_IRR _ => 2
  | .jp_cc_DA _ _ => 3
  | .jr_cc_RA _ _ => 2
  | .call_IRR _ => 2
  | .call_DA _ => 3
  | .ld_r_IM _ _ => 2
  | .ld_r_R _ _ => 2
  | .ld_R_r _ _ => 2
  | .ld_r_Ir _ _ => 2
  | .ld_Ir_r _ _ => 2
  | .ld_R_R _ _ => 3
  | .ld_R_IR _ _ => 3
  | .ld_R_IM _ _ => 3
  | .ld_IR_IM _ _ => 3
  | .ld_IR_R _ _ => 3
  | .ld_r_X _ _ _ => 3
  | .ld_X_r _ _ _ => 3
  | .ldc_r_Irr _ _ => 2
  | .ldc_Irr_r _ _ => 2
  | .ldc_r_XS _ _ _ => 3
  | .ldc_XS_r _ _ _ => 3
  | .ldc_r_XL _ _ _ => 4
  | .ldc_XL_r _ _ _ => 4
  | .ldc_r_DA _ _ => 4
  | .ldc_DA_r _ _ => 4
  | .lde_r_Irr _ _ => 2
  | .lde_Irr_r _ _ => 2
  | .lde_r_XS _ _ _ => 3
  | .lde_XS_r _ _ _ => 3
  | .lde_r_XL _ _ _ => 4
  | .lde_XL_r _ _ _ => 4
  | .lde_r_DA _ _ => 4
  | .lde_DA_r _ _ => 4
  | .ldcd_r_Irr _ _ => 2
  | .lded_r_Irr _ _ => 2
  | .ldci_r_Irr _ _ => 2
  | .ldei_r_Irr _ _ => 2
  | .idle => 1
  | .stop => 1
  | .di => 1
  | .ei => 1
  | .ret => 1
  | .iret => 1
  | .rcf => 1
  | .scf => 1
  | .ccf => 1
  | .nop => 1

/-- Whether a first byte is one of the 198 that the opcode map defines (R106, R107), by column. -/
def definedOpcode (b1 : Byte) : Bool :=
  let hi := (hiNibble b1).toNat
  match loNibble b1 with
  | 0x0#4 => !([0x4, 0x8, 0xA, 0xF].contains hi)
  | 0x1#4 => !([0x3, 0x4, 0x8, 0xA, 0xF].contains hi)
  | 0x2#4 => !([0x8, 0x9, 0xC, 0xD, 0xF].contains hi)
  | 0x3#4 => !([0x8, 0x9, 0xF].contains hi)
  | 0x4#4 => !([0x8, 0x9, 0xC, 0xD].contains hi)
  | 0x5#4 => !([0x8, 0x9, 0xC, 0xD].contains hi)
  | 0x6#4 => !([0x8, 0x9, 0xC].contains hi)
  | 0x7#4 => decide (0x8 ≤ hi)
  | 0xA#4 => false
  | 0xF#4 => decide (0x6 ≤ hi)
  | _ => true

/-- The length that a first byte fixes, none for the 58 undefined ones (R104, R107). -/
def opLength (b1 : Byte) : Option Nat :=
  if definedOpcode b1 then
    match loNibble b1 with
    | 0x4#4 => if hiNibble b1 = 0xF then some 2 else some 3
    | 0x5#4 => some 3
    | 0x6#4 => some 3
    | 0x7#4 =>
      match hiNibble b1 with
      | 0xC#4 => some 2
      | 0xD#4 => some 2
      | 0xA#4 => some 4
      | 0xB#4 => some 4
      | _ => some 3
    | 0xD#4 => some 3
    | 0xE#4 => some 1
    | 0xF#4 => some 1
    | _ => some 2
  else none

/-! ### Decoding -/

/-- Column 0 of the opcode map: one-operand register forms and JP IRR (R106, R112). -/
def decodeColumn0 (hi : BitVec 4) (b2 : Byte) : Option Instr :=
  match hi with
  | 0x0#4 => some (.dec_R b2)
  | 0x1#4 => some (.rlc_R b2)
  | 0x2#4 => some (.inc_R b2)
  | 0x3#4 => some (.jp_IRR b2)
  | 0x5#4 => some (.pop_R b2)
  | 0x6#4 => some (.com_R b2)
  | 0x7#4 => some (.push_R b2)
  | 0x9#4 => some (.rl_R b2)
  | 0xB#4 => some (.clr_R b2)
  | 0xC#4 => some (.rrc_R b2)
  | 0xD#4 => some (.sra_R b2)
  | 0xE#4 => some (.rr_R b2)
  | _ => none

/-- Column 1: one-operand indirect forms (R106, R112). -/
def decodeColumn1 (hi : BitVec 4) (b2 : Byte) : Option Instr :=
  match hi with
  | 0x0#4 => some (.dec_IR b2)
  | 0x1#4 => some (.rlc_IR b2)
  | 0x2#4 => some (.inc_IR b2)
  | 0x5#4 => some (.pop_IR b2)
  | 0x6#4 => some (.com_IR b2)
  | 0x7#4 => some (.push_IR b2)
  | 0x9#4 => some (.rl_IR b2)
  | 0xB#4 => some (.clr_IR b2)
  | 0xC#4 => some (.rrc_IR b2)
  | 0xD#4 => some (.sra_IR b2)
  | 0xE#4 => some (.rr_IR b2)
  | _ => none

/-- Column 2: ALU r,r (destination in the high nibble) and LDCD, LDED (R106, R111, R140, R141). -/
def decodeColumn2 (hi : BitVec 4) (b2 : Byte) : Option Instr :=
  match hi with
  | 0x0#4 => some (.add_r_r (hiNibble b2) (loNibble b2))
  | 0x1#4 => some (.adc_r_r (hiNibble b2) (loNibble b2))
  | 0x2#4 => some (.sub_r_r (hiNibble b2) (loNibble b2))
  | 0x3#4 => some (.sbc_r_r (hiNibble b2) (loNibble b2))
  | 0x4#4 => some (.or_r_r (hiNibble b2) (loNibble b2))
  | 0x5#4 => some (.and_r_r (hiNibble b2) (loNibble b2))
  | 0x6#4 => some (.tcm_r_r (hiNibble b2) (loNibble b2))
  | 0x7#4 => some (.tm_r_r (hiNibble b2) (loNibble b2))
  | 0xA#4 => some (.cp_r_r (hiNibble b2) (loNibble b2))
  | 0xB#4 => some (.xor_r_r (hiNibble b2) (loNibble b2))
  | 0xE#4 => some (if spaceOf (loNibble b2) then .lded_r_Irr (hiNibble b2) (pairOf (loNibble b2)) else .ldcd_r_Irr (hiNibble b2) (pairOf (loNibble b2)))
  | _ => none

/-- Column 3: ALU r,Ir, LDC and LDE through a pair, LDCI, LDEI (R106, R111, R137 to R139, R142, R143). -/
def decodeColumn3 (hi : BitVec 4) (b2 : Byte) : Option Instr :=
  match hi with
  | 0x0#4 => some (.add_r_Ir (hiNibble b2) (loNibble b2))
  | 0x1#4 => some (.adc_r_Ir (hiNibble b2) (loNibble b2))
  | 0x2#4 => some (.sub_r_Ir (hiNibble b2) (loNibble b2))
  | 0x3#4 => some (.sbc_r_Ir (hiNibble b2) (loNibble b2))
  | 0x4#4 => some (.or_r_Ir (hiNibble b2) (loNibble b2))
  | 0x5#4 => some (.and_r_Ir (hiNibble b2) (loNibble b2))
  | 0x6#4 => some (.tcm_r_Ir (hiNibble b2) (loNibble b2))
  | 0x7#4 => some (.tm_r_Ir (hiNibble b2) (loNibble b2))
  | 0xA#4 => some (.cp_r_Ir (hiNibble b2) (loNibble b2))
  | 0xB#4 => some (.xor_r_Ir (hiNibble b2) (loNibble b2))
  | 0xC#4 => some (if spaceOf (loNibble b2) then .lde_r_Irr (hiNibble b2) (pairOf (loNibble b2)) else .ldc_r_Irr (hiNibble b2) (pairOf (loNibble b2)))
  | 0xD#4 => some (if spaceOf (loNibble b2) then .lde_Irr_r (pairOf (loNibble b2)) (hiNibble b2) else .ldc_Irr_r (pairOf (loNibble b2)) (hiNibble b2))
  | 0xE#4 => some (if spaceOf (loNibble b2) then .ldei_r_Irr (hiNibble b2) (pairOf (loNibble b2)) else .ldci_r_Irr (hiNibble b2) (pairOf (loNibble b2)))
  | _ => none

/-- Column 4: source byte first, destination byte second; CALL IRR (R106, R111, R134, R190). -/
def decodeColumn4 (hi : BitVec 4) (b2 b3 : Byte) : Option Instr :=
  match hi with
  | 0x0#4 => some (.add_R_R b3 b2)
  | 0x1#4 => some (.adc_R_R b3 b2)
  | 0x2#4 => some (.sub_R_R b3 b2)
  | 0x3#4 => some (.sbc_R_R b3 b2)
  | 0x4#4 => some (.or_R_R b3 b2)
  | 0x5#4 => some (.and_R_R b3 b2)
  | 0x6#4 => some (.tcm_R_R b3 b2)
  | 0x7#4 => some (.tm_R_R b3 b2)
  | 0xA#4 => some (.cp_R_R b3 b2)
  | 0xB#4 => some (.xor_R_R b3 b2)
  | 0xE#4 => some (.ld_R_R b3 b2)
  | 0xF#4 => some (.call_IRR b2)
  | _ => none

/-- Column 5: source byte first, destination byte second (R106, R111, R134, R135). -/
def decodeColumn5 (hi : BitVec 4) (b2 b3 : Byte) : Option Instr :=
  match hi with
  | 0x0#4 => some (.add_R_IR b3 b2)
  | 0x1#4 => some (.adc_R_IR b3 b2)
  | 0x2#4 => some (.sub_R_IR b3 b2)
  | 0x3#4 => some (.sbc_R_IR b3 b2)
  | 0x4#4 => some (.or_R_IR b3 b2)
  | 0x5#4 => some (.and_R_IR b3 b2)
  | 0x6#4 => some (.tcm_R_IR b3 b2)
  | 0x7#4 => some (.tm_R_IR b3 b2)
  | 0xA#4 => some (.cp_R_IR b3 b2)
  | 0xB#4 => some (.xor_R_IR b3 b2)
  | 0xE#4 => some (.ld_R_IR b3 b2)
  | 0xF#4 => some (.ld_IR_R b3 b2)
  | _ => none

/-- Column 6: destination byte, then immediate; CALL DA, high address byte first (R103 (g), R106, R111). -/
def decodeColumn6 (hi : BitVec 4) (b2 b3 : Byte) : Option Instr :=
  match hi with
  | 0x0#4 => some (.add_R_IM b2 b3)
  | 0x1#4 => some (.adc_R_IM b2 b3)
  | 0x2#4 => some (.sub_R_IM b2 b3)
  | 0x3#4 => some (.sbc_R_IM b2 b3)
  | 0x4#4 => some (.or_R_IM b2 b3)
  | 0x5#4 => some (.and_R_IM b2 b3)
  | 0x6#4 => some (.tcm_R_IM b2 b3)
  | 0x7#4 => some (.tm_R_IM b2 b3)
  | 0xA#4 => some (.cp_R_IM b2 b3)
  | 0xB#4 => some (.xor_R_IM b2 b3)
  | 0xD#4 => some (.ld_IR_IM b2 b3)
  | 0xE#4 => some (.ld_R_IM b2 b3)
  | 0xF#4 => some (.call_DA (wordOf b2 b3))
  | _ => none

/-- A7: LDC or LDE from a long offset, or from a direct address where bits 3-1 of the pair nibble
are 000; low byte of the address first (R103 (e), (f), (h)). -/
def decodeLongLoad (d : WReg) (nib : BitVec 4) (w : Word) : Instr :=
  if pairOf nib = 0 then
    if spaceOf nib then .lde_r_DA d w else .ldc_r_DA d w
  else
    if spaceOf nib then .lde_r_XL d w (pairOf nib) else .ldc_r_XL d w (pairOf nib)

/-- B7: LDC or LDE to a long offset or a direct address (R103 (e), (f), (h)). -/
def decodeLongStore (s : WReg) (nib : BitVec 4) (w : Word) : Instr :=
  if pairOf nib = 0 then
    if spaceOf nib then .lde_DA_r w s else .ldc_DA_r w s
  else
    if spaceOf nib then .lde_XL_r w (pairOf nib) s else .ldc_XL_r w (pairOf nib) s

/-- Column 7: indexed and indirect LD, LDC and LDE with offsets (R106, R133, R136 to R139). -/
def decodeColumn7 (hi : BitVec 4) (b2 b3 b4 : Byte) : Option Instr :=
  match hi with
  | 0x8#4 => some (.ld_r_X (hiNibble b2) b3 (loNibble b2))
  | 0x9#4 => some (.ld_X_r b3 (loNibble b2) (hiNibble b2))
  | 0xA#4 => some (decodeLongLoad (hiNibble b2) (loNibble b2) (wordOf b4 b3))
  | 0xB#4 => some (decodeLongStore (hiNibble b2) (loNibble b2) (wordOf b4 b3))
  | 0xC#4 => some (.ld_r_Ir (hiNibble b2) (loNibble b2))
  | 0xD#4 => some (.ld_Ir_r (hiNibble b2) (loNibble b2))
  | 0xE#4 => some (if spaceOf (loNibble b2) then .lde_r_XS (hiNibble b2) b3 (pairOf (loNibble b2)) else .ldc_r_XS (hiNibble b2) b3 (pairOf (loNibble b2)))
  | 0xF#4 => some (if spaceOf (loNibble b2) then .lde_XS_r b3 (pairOf (loNibble b2)) (hiNibble b2) else .ldc_XS_r b3 (pairOf (loNibble b2)) (hiNibble b2))
  | _ => none

/-- Column F: the one-byte instructions without operands (R106). -/
def decodeColumnF (hi : BitVec 4) : Option Instr :=
  match hi with
  | 0x6#4 => some (.idle)
  | 0x7#4 => some (.stop)
  | 0x8#4 => some (.di)
  | 0x9#4 => some (.ei)
  | 0xA#4 => some (.ret)
  | 0xB#4 => some (.iret)
  | 0xC#4 => some (.rcf)
  | 0xD#4 => some (.scf)
  | 0xE#4 => some (.ccf)
  | 0xF#4 => some (.nop)
  | _ => none

/-- The instruction of four bytes, of which it uses its length; none for an undefined first byte
(R106, R107, R110). -/
def decodeBytes (b1 b2 b3 b4 : Byte) : Option Instr :=
  match loNibble b1 with
  | 0x0#4 => decodeColumn0 (hiNibble b1) b2
  | 0x1#4 => decodeColumn1 (hiNibble b1) b2
  | 0x2#4 => decodeColumn2 (hiNibble b1) b2
  | 0x3#4 => decodeColumn3 (hiNibble b1) b2
  | 0x4#4 => decodeColumn4 (hiNibble b1) b2 b3
  | 0x5#4 => decodeColumn5 (hiNibble b1) b2 b3
  | 0x6#4 => decodeColumn6 (hiNibble b1) b2 b3
  | 0x7#4 => decodeColumn7 (hiNibble b1) b2 b3 b4
  | 0x8#4 => some (.ld_r_R (hiNibble b1) b2)
  | 0x9#4 => some (.ld_R_r b2 (hiNibble b1))
  | 0xB#4 => some (.jr_cc_RA (Cond.ofCode (hiNibble b1)) b2)
  | 0xC#4 => some (.ld_r_IM (hiNibble b1) b2)
  | 0xD#4 => some (.jp_cc_DA (Cond.ofCode (hiNibble b1)) (wordOf b2 b3))
  | 0xE#4 => some (.inc_r (hiNibble b1))
  | 0xF#4 => decodeColumnF (hiNibble b1)
  | _ => none

/-- What decoding answers: an instruction, or a rejection by name. -/
inductive Decoded where
  /-- The bytes begin with this instruction. -/
  | instr (i : Instr)
  /-- The first byte is one of the 58 undefined ones (R107). -/
  | undefinedOpcode (b1 : Byte)
  /-- There are fewer bytes than the instruction has. -/
  | truncated
deriving DecidableEq, Repr

/-- The byte at a place of a list, 0 beyond its end. -/
def byteAt (bs : List Byte) (n : Nat) : Byte := bs.getD n 0

/-- Decoding (R110), total on any bytes; bytes beyond the instruction's length are not looked at. -/
def decode (bs : List Byte) : Decoded :=
  if bs.isEmpty then .truncated
  else
    match decodeBytes (byteAt bs 0) (byteAt bs 1) (byteAt bs 2) (byteAt bs 3) with
    | none => .undefinedOpcode (byteAt bs 0)
    | some i => if bs.length < i.length then .truncated else .instr i

/-! ### Encoding -/

/-- The bytes of an instruction, first byte first (R101 formats, R103 byte orders, R106). -/
def encode : Instr → List Byte
  | .add_r_r dst src => [0x02, nibbles dst src]
  | .add_r_Ir dst src => [0x03, nibbles dst src]
  | .add_R_R dst src => [0x04, src, dst]
  | .add_R_IR dst src => [0x05, src, dst]
  | .add_R_IM dst imm => [0x06, dst, imm]
  | .adc_r_r dst src => [0x12, nibbles dst src]
  | .adc_r_Ir dst src => [0x13, nibbles dst src]
  | .adc_R_R dst src => [0x14, src, dst]
  | .adc_R_IR dst src => [0x15, src, dst]
  | .adc_R_IM dst imm => [0x16, dst, imm]
  | .sub_r_r dst src => [0x22, nibbles dst src]
  | .sub_r_Ir dst src => [0x23, nibbles dst src]
  | .sub_R_R dst src => [0x24, src, dst]
  | .sub_R_IR dst src => [0x25, src, dst]
  | .sub_R_IM dst imm => [0x26, dst, imm]
  | .sbc_r_r dst src => [0x32, nibbles dst src]
  | .sbc_r_Ir dst src => [0x33, nibbles dst src]
  | .sbc_R_R dst src => [0x34, src, dst]
  | .sbc_R_IR dst src => [0x35, src, dst]
  | .sbc_R_IM dst imm => [0x36, dst, imm]
  | .or_r_r dst src => [0x42, nibbles dst src]
  | .or_r_Ir dst src => [0x43, nibbles dst src]
  | .or_R_R dst src => [0x44, src, dst]
  | .or_R_IR dst src => [0x45, src, dst]
  | .or_R_IM dst imm => [0x46, dst, imm]
  | .and_r_r dst src => [0x52, nibbles dst src]
  | .and_r_Ir dst src => [0x53, nibbles dst src]
  | .and_R_R dst src => [0x54, src, dst]
  | .and_R_IR dst src => [0x55, src, dst]
  | .and_R_IM dst imm => [0x56, dst, imm]
  | .tcm_r_r dst src => [0x62, nibbles dst src]
  | .tcm_r_Ir dst src => [0x63, nibbles dst src]
  | .tcm_R_R dst src => [0x64, src, dst]
  | .tcm_R_IR dst src => [0x65, src, dst]
  | .tcm_R_IM dst imm => [0x66, dst, imm]
  | .tm_r_r dst src => [0x72, nibbles dst src]
  | .tm_r_Ir dst src => [0x73, nibbles dst src]
  | .tm_R_R dst src => [0x74, src, dst]
  | .tm_R_IR dst src => [0x75, src, dst]
  | .tm_R_IM dst imm => [0x76, dst, imm]
  | .cp_r_r dst src => [0xA2, nibbles dst src]
  | .cp_r_Ir dst src => [0xA3, nibbles dst src]
  | .cp_R_R dst src => [0xA4, src, dst]
  | .cp_R_IR dst src => [0xA5, src, dst]
  | .cp_R_IM dst imm => [0xA6, dst, imm]
  | .xor_r_r dst src => [0xB2, nibbles dst src]
  | .xor_r_Ir dst src => [0xB3, nibbles dst src]
  | .xor_R_R dst src => [0xB4, src, dst]
  | .xor_R_IR dst src => [0xB5, src, dst]
  | .xor_R_IM dst imm => [0xB6, dst, imm]
  | .dec_R dst => [0x00, dst]
  | .dec_IR dst => [0x01, dst]
  | .rlc_R dst => [0x10, dst]
  | .rlc_IR dst => [0x11, dst]
  | .inc_R dst => [0x20, dst]
  | .inc_IR dst => [0x21, dst]
  | .pop_R dst => [0x50, dst]
  | .pop_IR dst => [0x51, dst]
  | .com_R dst => [0x60, dst]
  | .com_IR dst => [0x61, dst]
  | .push_R src => [0x70, src]
  | .push_IR src => [0x71, src]
  | .rl_R dst => [0x90, dst]
  | .rl_IR dst => [0x91, dst]
  | .clr_R dst => [0xB0, dst]
  | .clr_IR dst => [0xB1, dst]
  | .rrc_R dst => [0xC0, dst]
  | .rrc_IR dst => [0xC1, dst]
  | .sra_R dst => [0xD0, dst]
  | .sra_IR dst => [0xD1, dst]
  | .rr_R dst => [0xE0, dst]
  | .rr_IR dst => [0xE1, dst]
  | .inc_r dst => [nibbles dst 0xE]
  | .jp_IRR a => [0x30, a]
  | .jp_cc_DA cc da => [nibbles cc.code 0xD, hiByte da, loByte da]
  | .jr_cc_RA cc off => [nibbles cc.code 0xB, off]
  | .call_IRR a => [0xF4, a]
  | .call_DA da => [0xF6, hiByte da, loByte da]
  | .ld_r_IM dst imm => [nibbles dst 0xC, imm]
  | .ld_r_R dst src => [nibbles dst 0x8, src]
  | .ld_R_r dst src => [nibbles src 0x9, dst]
  | .ld_r_Ir dst src => [0xC7, nibbles dst src]
  | .ld_Ir_r dst src => [0xD7, nibbles dst src]
  | .ld_R_R dst src => [0xE4, src, dst]
  | .ld_R_IR dst src => [0xE5, src, dst]
  | .ld_R_IM dst imm => [0xE6, dst, imm]
  | .ld_IR_IM dst imm => [0xD6, dst, imm]
  | .ld_IR_R dst src => [0xF5, src, dst]
  | .ld_r_X dst x idx => [0x87, nibbles dst idx, x]
  | .ld_X_r x idx src => [0x97, nibbles src idx, x]
  | .ldc_r_Irr dst p => [0xC3, nibbles dst (pairNibble p false)]
  | .ldc_Irr_r p src => [0xD3, nibbles src (pairNibble p false)]
  | .ldc_r_XS dst xs p => [0xE7, nibbles dst (pairNibble p false), xs]
  | .ldc_XS_r xs p src => [0xF7, nibbles src (pairNibble p false), xs]
  | .ldc_r_XL dst xl p => [0xA7, nibbles dst (pairNibble p false), loByte xl, hiByte xl]
  | .ldc_XL_r xl p src => [0xB7, nibbles src (pairNibble p false), loByte xl, hiByte xl]
  | .ldc_r_DA dst da => [0xA7, nibbles dst (pairNibble 0 false), loByte da, hiByte da]
  | .ldc_DA_r da src => [0xB7, nibbles src (pairNibble 0 false), loByte da, hiByte da]
  | .lde_r_Irr dst p => [0xC3, nibbles dst (pairNibble p true)]
  | .lde_Irr_r p src => [0xD3, nibbles src (pairNibble p true)]
  | .lde_r_XS dst xs p => [0xE7, nibbles dst (pairNibble p true), xs]
  | .lde_XS_r xs p src => [0xF7, nibbles src (pairNibble p true), xs]
  | .lde_r_XL dst xl p => [0xA7, nibbles dst (pairNibble p true), loByte xl, hiByte xl]
  | .lde_XL_r xl p src => [0xB7, nibbles src (pairNibble p true), loByte xl, hiByte xl]
  | .lde_r_DA dst da => [0xA7, nibbles dst (pairNibble 0 true), loByte da, hiByte da]
  | .lde_DA_r da src => [0xB7, nibbles src (pairNibble 0 true), loByte da, hiByte da]
  | .ldcd_r_Irr dst p => [0xE2, nibbles dst (pairNibble p false)]
  | .lded_r_Irr dst p => [0xE2, nibbles dst (pairNibble p true)]
  | .ldci_r_Irr dst p => [0xE3, nibbles dst (pairNibble p false)]
  | .ldei_r_Irr dst p => [0xE3, nibbles dst (pairNibble p true)]
  | .idle => [0x6F]
  | .stop => [0x7F]
  | .di => [0x8F]
  | .ei => [0x9F]
  | .ret => [0xAF]
  | .iret => [0xBF]
  | .rcf => [0xCF]
  | .scf => [0xDF]
  | .ccf => [0xEF]
  | .nop => [0xFF]

/-! ### The table's numbering -/

/-- The n bytes of a number, most significant byte first: opcode_table.json numbers an
instruction with byte 1 the most significant (30_encoding.md; log 32). -/
def bytesOfNumber : Nat → Nat → List Byte
  | 0, _ => []
  | n + 1, w => BitVec.ofNat 8 (w / 256 ^ n) :: bytesOfNumber n w

/-- The four bytes, lowest address first, of an instruction numbered as the table numbers it;
bytes the number does not cover are 0. -/
def tableBytes (nbits w : Nat) : List Byte :=
  (bytesOfNumber (nbits / 8) w ++ [0, 0, 0, 0]).take 4

/-- The instruction the decoder reads from an instruction word of the opcode table. -/
def decodeTableWord (nbits w : Nat) : Option Instr :=
  match decode (tableBytes nbits w) with
  | .instr i => some i
  | .undefinedOpcode _ => none
  | .truncated => none

end Sys2Proof
end

