-- ==== Sys2Proof/Machine/State.lean ====
section
/-! DEFINITION. The state of the machine as plain data (10_state.md), the environment's inputs
(60_exceptions.md R230, R272), the reasons a step can stop (93_implementation_defined.md), and
the state after a power-on reset (10_state.md R48). -/

namespace Sys2Proof.Machine

/-- A memory: the listed bytes, addresses strictly rising, none equal to what an unlisted address
reads as. -/
abbrev Memory := List Host.Cell

/-- What an unlisted register-file byte reads as (R48 states no reset value; log 1). -/
def ramDefault : Byte := 0x00

/-- What an unlisted program-memory byte reads as: unprogrammed ROM is FFH (R55). -/
def progDefault : Byte := 0xFF

/-- What an unlisted byte of external data memory reads as (R54 states no contents; log 14). -/
def dataDefault : Byte := 0x00

/-- How many register-file bytes are plain storage: 00H to CFH (R19, R20, R14). -/
def ramSize : Nat := 0xD0

/-- How many program or data addresses the 16-bit address reaches (R16, R54). -/
def addressSpace : Nat := 65536

/-- The canonical form: addresses strictly rise, stay below the space's size, and no entry equals
what an unlisted address reads as. -/
abbrev Memory.wf (dflt : Byte) (size : Nat) (m : Memory) : Prop :=
  m.Pairwise (fun x y => x.1 < y.1) ∧ ∀ c ∈ m, c.1 < size ∧ c.2 ≠ dflt

/-- The power state (R47, R49). -/
inductive Mode where
  | run | idle | stop | resetWait
deriving DecidableEq, Repr

/-- Timer 0 (R23 to R25, R284): T0CNT, T0DATA, T0CON and the output signal `t0out`. -/
structure Timer0 where
  cnt : Byte
  data : Byte
  con : Byte
  out : Bool
deriving DecidableEq, Repr

/-- The Basic Timer (R28, R29, R276): BTCON, BTCNT, the watchdog's reset request, and the signal
that BTCNT.4 has risen, which says that the oscillator is stable (R243 (d)). -/
structure BasicTimer where
  con : Byte
  cnt : Byte
  request : Bool
  stable : Bool
deriving DecidableEq, Repr

/-- The PWM (R41, R42, R290, R292): PWMDATA, PWMCON, and the hidden counter and data buffer. -/
structure Pwm where
  data : Byte
  con : Byte
  cnt : Byte
  buf : Byte
deriving DecidableEq, Repr

/-- The A/D converter (R44 to R46, R296): ADCON (bit 0 is not stored), ADDATAH, ADDATAL, and the
hidden conversion in progress. -/
structure Adc where
  con : Byte
  datah : Byte
  datal : Byte
  busy : Bool
  timer : Nat
  sar : BitVec 10
deriving DecidableEq, Repr

/-- The port latches and the port control registers (R32 to R40). -/
structure Ports where
  p0 : Byte
  p1 : Byte
  p2 : Byte
  p0conh : Byte
  p0conl : Byte
  p0pnd : Byte
  p1con : Byte
  p2conh : Byte
  p2conl : Byte
deriving DecidableEq, Repr

/-- What the environment holds at the chip's pins: the port pin levels and the edge detectors'
previous levels (R47, R303), the reading of each analog input (R296), whether VDD is below the LVR
level, and whether the external reset source of this chip, the RESET pin or the LVR, has been active
since the last reset (70_reset_and_hazards.md R320, R324; log 54). -/
structure Pins where
  p0 : BitVec 8
  p1 : BitVec 3
  p2 : BitVec 7
  intPrev0 : Bool
  intPrev1 : Bool
  analog : Vector (BitVec 10) 9
  vddLow : Bool
  resetSeen : Bool
deriving DecidableEq, Repr

/-- One thing the environment does between two instructions (R230, R272; log 8). -/
inductive EnvEvent where
  /-- Oscillator periods pass. -/
  | ticks (n : Nat)
  /-- The port pins take these levels. -/
  | pins (p0 : BitVec 8) (p1 : BitVec 3) (p2 : BitVec 7)
  /-- Analog input `ch` takes this reading. -/
  | analog (ch : Fin 9) (v : BitVec 10)
  /-- The supply falls below the LVR level, or returns above it. -/
  | supply (low : Bool)
deriving DecidableEq, Repr

/-- What the environment does during one step: whether the chip is being powered on (R320), and
events in order. -/
structure StepInput where
  powerOn : Bool
  events : List EnvEvent
deriving DecidableEq, Repr

/-- The machine. The control registers of 10_state.md R21 that belong to a device stand in the
device's record; an unused bit of a register is stored as 0 and reads as any value (R22). -/
structure State where
  /-- Register-file bytes 00H to CFH: general-purpose and working registers (R14, R20). -/
  ram : Memory
  /-- Program memory (R50, R51). -/
  prog : Memory
  /-- External data memory, used only where `cfg.hasDataMem` (R54). -/
  data : Memory
  /-- The program counter (R16). -/
  pc : Word
  /-- FLAGS, D5H (R17). -/
  flags : Byte
  /-- SP, D9H (R18). -/
  sp : Byte
  /-- SYM, DFH (R30). -/
  sym : Byte
  /-- The power state (R49). -/
  mode : Mode
  /-- CLKCON, D4H (R26). -/
  clkcon : Byte
  /-- STOPCON, F4H (R43). -/
  stopcon : Byte
  /-- MDSREG, DBH (R27). -/
  mdsreg : Byte
  /-- FTSTCON, DEH (R31). -/
  ftstcon : Byte
  /-- The clock divider (R47, R275). -/
  div : BitVec 12
  /-- The CLO output signal (R47, R273). -/
  clo : Bool
  t0 : Timer0
  bt : BasicTimer
  pwm : Pwm
  adc : Adc
  ports : Ports
  pins : Pins
  /-- The parameters (00_scope.md R6); no step changes them. -/
  cfg : Params
  /-- The model's own field: what the environment does in the coming steps (log 8). -/
  inputs : List StepInput
  /-- The model's own field: how many free values have been drawn (log 9). -/
  draws : Nat
deriving DecidableEq, Repr

/-- Why the machine stops where the spec's treatment is `fault` (93_implementation_defined.md
section 1, rows 1, 2, 27, 28): outcomes of the model, not of the hardware (60_exceptions.md
R232). Safe: nothing is claimed of what follows. -/
inductive Fault where
  /-- The fetch raises it at one of the 58 undefined first bytes (30_encoding.md R107). Safe. -/
  | undefinedOpcode (b1 : Byte)
  /-- A fetch, a vector fetch or an access of the LDC family raises it at a program address at or
  above ROM_SIZE (20_memory.md R52, R62). Safe. -/
  | programAddressOutOfRange (a : Word)
deriving DecidableEq, Repr

/-- Why a step has no meaning where the spec's treatment is `refuse`
(93_implementation_defined.md section 1). Safe: nothing is claimed of what follows. -/
inductive Refusal where
  /-- `exec` answers it in an arm whose instruction has no meaning yet. Safe. -/
  | notModelled (mnemonic : String)
  /-- A store form of LDC where program memory is constant (20_memory.md R53). Safe. -/
  | storeToProgramMemory
  /-- LDE, LDED or LDEI where there is no data memory (20_memory.md R54). Safe. -/
  | noDataMemory
  /-- JP IRR or CALL IRR with an odd pair address (20_memory.md R58). Safe. -/
  | oddRegisterPair (a : Byte)
  /-- A write to a reserved register-file address (10_state.md R22 (b)). Safe. -/
  | reservedRegister (a : Byte)
  /-- A write to T0CNT, BTCNT, ADDATAH or ADDATAL (10_state.md R22 (c)). Safe. -/
  | writeToReadOnly (a : Byte)
  /-- A write of a value with a nonzero bit 5-0 to FTSTCON (10_state.md R31). Safe. -/
  | ftstconNotZero
  /-- A write of 11 to BTCON.3-2 (10_state.md R28, 60_exceptions.md R276 (f)). Safe. -/
  | btconIllegalClock
  /-- A write of a page other than 0 to SYM.1-0 (10_state.md R30). Safe. -/
  | symPageSelect
deriving DecidableEq, Repr

/-- The state right after a power-on reset (10_state.md R48, 70_reset_and_hazards.md R322). Where
the spec says `any`, the value is the model's (DESIGN CHOICE, log 1 to 5, 7). -/
def State.reset : State where
  ram := []
  prog := []
  data := []
  pc := 0x0100
  flags := 0x00
  sp := 0xC0
  sym := 0x00
  mode := .resetWait
  clkcon := 0x00
  stopcon := 0x00
  mdsreg := 0x00
  ftstcon := 0x00
  div := 0x000
  clo := false
  t0 := { cnt := 0x00, data := 0xFF, con := 0x00, out := false }
  bt := { con := 0x00, cnt := 0x00, request := false, stable := false }
  pwm := { data := 0x00, con := 0x00, cnt := 0x00, buf := 0x00 }
  adc := { con := 0x00, datah := 0x00, datal := 0x00, busy := false, timer := 0, sar := 0x000 }
  ports := { p0 := 0x00, p1 := 0x00, p2 := 0x00, p0conh := 0x00, p0conl := 0x00, p0pnd := 0x00,
             p1con := 0x00, p2conh := 0x00, p2conl := 0x00 }
  pins := { p0 := 0xFF, p1 := 0x7, p2 := 0x7F, intPrev0 := true, intPrev1 := true,
            analog := Vector.replicate 9 0, vddLow := false, resetSeen := false }
  cfg := Params.standard
  inputs := []
  draws := 0

end Sys2Proof.Machine
end

