-- ==== Sys2Proof/Machine/Flags.lean ====
section
/-! DEFINITION. The four flags and every computation of an 8-bit result with its flags
(10_state.md R17; 41_arithmetic.md; 42_logic.md; 44_bit_test.md; 45_rotate_shift.md). The functions
are pure: operand values and the flags before in, result and the flags after out. -/

namespace Sys2Proof.Machine

/-- The flags C, Z, S, V: FLAGS.7 to FLAGS.4 (R17). -/
structure Czsv where
  c : Bool
  z : Bool
  s : Bool
  v : Bool
deriving DecidableEq, Repr

/-- The flags in a FLAGS byte. -/
def Czsv.ofByte (b : Byte) : Czsv :=
  { c := b.getLsbD 7, z := b.getLsbD 6, s := b.getLsbD 5, v := b.getLsbD 4 }

/-- The FLAGS byte of the flags; bits 3-0 are not used and stored as 0. -/
def Czsv.toByte (f : Czsv) : Byte :=
  BitVec.ofBool f.c ++ BitVec.ofBool f.z ++ BitVec.ofBool f.s ++ BitVec.ofBool f.v ++ 0#4

/-- The flags of a state. -/
def State.czsv (s : State) : Czsv := Czsv.ofByte s.flags

/-- The flags after a result: Z and S as R160 (c) defines them, C and V given. -/
def flagsOf (res : Byte) (c v : Bool) : Czsv :=
  { c := c, z := res == 0, s := res.getLsbD 7, v := v }

/-- A result and the flags after. -/
abbrev Alu := Byte × Czsv

/-! ### Arithmetic (R160 to R167) -/

/-- The 9-bit sum `dv + sv + carry`. -/
def sum9 (dv sv : Byte) (carry : Bool) : BitVec 9 :=
  dv.zeroExtend 9 + sv.zeroExtend 9 + (BitVec.ofBool carry).zeroExtend 9

/-- The 9-bit difference `dv - sv - borrow`. -/
def diff9 (dv sv : Byte) (borrow : Bool) : BitVec 9 :=
  dv.zeroExtend 9 - sv.zeroExtend 9 - (BitVec.ofBool borrow).zeroExtend 9

/-- The overflow of an addition: operands of one sign, result of the other. -/
def addOverflow (dv sv res : Byte) : Bool :=
  dv.getLsbD 7 == sv.getLsbD 7 && res.getLsbD 7 != dv.getLsbD 7

/-- The overflow of a subtraction: operands of different signs, result of the source's sign. -/
def subOverflow (dv sv res : Byte) : Bool :=
  dv.getLsbD 7 != sv.getLsbD 7 && res.getLsbD 7 == sv.getLsbD 7

/-- The addition with the given carry in. -/
def addWith (carry : Bool) (dv sv : Byte) : Alu :=
  let t := sum9 dv sv carry
  let res := t.setWidth 8
  (res, flagsOf res (t.getLsbD 8) (addOverflow dv sv res))

/-- The subtraction with the given borrow in. -/
def subWith (borrow : Bool) (dv sv : Byte) : Alu :=
  let t := diff9 dv sv borrow
  let res := t.setWidth 8
  (res, flagsOf res (t.getLsbD 8) (subOverflow dv sv res))

/-- ADC (R161). -/
def aluAdc (f : Czsv) (dv sv : Byte) : Alu := addWith f.c dv sv

/-- ADD (R162). -/
def aluAdd (_ : Czsv) (dv sv : Byte) : Alu := addWith false dv sv

/-- SBC (R166). -/
def aluSbc (f : Czsv) (dv sv : Byte) : Alu := subWith f.c dv sv

/-- SUB (R167). -/
def aluSub (_ : Czsv) (dv sv : Byte) : Alu := subWith false dv sv

/-- CP: the flags of SUB (R163). -/
def aluCp (_ : Czsv) (dv sv : Byte) : Alu := subWith false dv sv

/-- DEC (R164). -/
def aluDec (f : Czsv) (dv : Byte) : Alu :=
  (dv - 1, flagsOf (dv - 1) f.c (dv == 0x80))

/-- INC (R165). -/
def aluInc (f : Czsv) (dv : Byte) : Alu :=
  (dv + 1, flagsOf (dv + 1) f.c (dv == 0x7F))

/-! ### Logic and bit tests: C kept, V cleared (R180 to R183, R205, R206) -/

/-- A logic result: C kept, V cleared. -/
def logicResult (f : Czsv) (res : Byte) : Alu := (res, flagsOf res f.c false)

/-- AND (R180). -/
def aluAnd (f : Czsv) (dv sv : Byte) : Alu := logicResult f (dv &&& sv)

/-- OR (R182). -/
def aluOr (f : Czsv) (dv sv : Byte) : Alu := logicResult f (dv ||| sv)

/-- XOR (R183). -/
def aluXor (f : Czsv) (dv sv : Byte) : Alu := logicResult f (dv ^^^ sv)

/-- COM (R181). -/
def aluCom (f : Czsv) (dv : Byte) : Alu := logicResult f (~~~dv)

/-- TCM (R205). -/
def aluTcm (f : Czsv) (dv sv : Byte) : Alu := logicResult f (~~~dv &&& sv)

/-- TM (R206). -/
def aluTm (f : Czsv) (dv sv : Byte) : Alu := logicResult f (dv &&& sv)

/-! ### Rotates and the shift (R210 to R214) -/

/-- Bits 6-0 of a byte followed by `low`. -/
def shiftLeftIn (dv : Byte) (low : Bool) : Byte := dv.extractLsb' 0 7 ++ BitVec.ofBool low

/-- `high` followed by bits 7-1 of a byte. -/
def shiftRightIn (high : Bool) (dv : Byte) : Byte := BitVec.ofBool high ++ dv.extractLsb' 1 7

/-- A rotate's flags: V is set if the sign changed. -/
def rotateResult (dv res : Byte) (c : Bool) : Alu :=
  (res, flagsOf res c (res.getLsbD 7 != dv.getLsbD 7))

/-- RL (R210). -/
def aluRl (_ : Czsv) (dv : Byte) : Alu :=
  rotateResult dv (shiftLeftIn dv (dv.getLsbD 7)) (dv.getLsbD 7)

/-- RLC (R211). -/
def aluRlc (f : Czsv) (dv : Byte) : Alu :=
  rotateResult dv (shiftLeftIn dv f.c) (dv.getLsbD 7)

/-- RR (R212). -/
def aluRr (_ : Czsv) (dv : Byte) : Alu :=
  rotateResult dv (shiftRightIn (dv.getLsbD 0) dv) (dv.getLsbD 0)

/-- RRC (R213). -/
def aluRrc (f : Czsv) (dv : Byte) : Alu :=
  rotateResult dv (shiftRightIn f.c dv) (dv.getLsbD 0)

/-- SRA (R214): V is always cleared. -/
def aluSra (_ : Czsv) (dv : Byte) : Alu :=
  let res := shiftRightIn (dv.getLsbD 7) dv
  (res, flagsOf res (dv.getLsbD 0) false)

/-! ### Conditions (R105) -/

/-- Whether a condition holds of the flags (R105). -/
def Czsv.holds (f : Czsv) : Cond → Bool
  | .f => false
  | .t => true
  | .c => f.c
  | .nc => !f.c
  | .z => f.z
  | .nz => !f.z
  | .pl => !f.s
  | .mi => f.s
  | .ov => f.v
  | .nov => !f.v
  | .ge => !(f.s ^^ f.v)
  | .lt => f.s ^^ f.v
  | .gt => !(f.z || (f.s ^^ f.v))
  | .le => f.z || (f.s ^^ f.v)
  | .ugt => !f.c && !f.z
  | .ule => f.c || f.z

end Sys2Proof.Machine
end

