-- ==== Sys2Proof/Machine/Memory.lean ====
section
/-! DEFINITION. The two operations over a memory: one byte read, one byte written (20_memory.md
R59). A write keeps the canonical form of `Memory.wf`. -/

namespace Sys2Proof.Machine

/-- The byte at an address; an unlisted address reads as `dflt`. -/
def cellRead (dflt : Byte) : Memory → Nat → Byte
  | [], _ => dflt
  | (b, w) :: m, a => if b = a then w else cellRead dflt m a

/-- The memory with `v` at `a`; writing `dflt` unlists the address. -/
def cellWrite (dflt : Byte) : Memory → Nat → Byte → Memory
  | [], a, v => if v = dflt then [] else [(a, v)]
  | (b, w) :: m, a, v =>
    if a < b then (if v = dflt then (b, w) :: m else (a, v) :: (b, w) :: m)
    else if a = b then (if v = dflt then m else (a, v) :: m)
    else (b, w) :: cellWrite dflt m a v

/-- Consecutive bytes written from an address up. -/
def cellWriteList (dflt : Byte) : Memory → Nat → List Byte → Memory
  | m, _, [] => m
  | m, a, v :: vs => cellWriteList dflt (cellWrite dflt m a v) (a + 1) vs

end Sys2Proof.Machine
end

