-- ==== Sys2Proof/Machine/Ports.lean ====
section
/-! DEFINITION. The I/O ports (60_exceptions.md R300, R301): the mode that the control registers
give each pin, what a read of a data register returns, what the chip drives, and the falling-edge
detectors of INT0 and INT1 (R303). -/

namespace Sys2Proof.Machine

/-- What a pin is configured as (10_state.md R35 to R40). -/
inductive PinMode where
  /-- A Schmitt-trigger input, with or without a resistor. -/
  | input
  | pushPull
  | openDrain
  /-- An A/D input, Schmitt input off. -/
  | analog
  /-- An alternative output function: PWM, T0 match or CLO. -/
  | alternative
  /-- Taken by the oscillator or the reset circuit: XIN, XOUT, RESET. -/
  | taken
deriving DecidableEq, Repr

/-- The two-bit field of a control register whose low bit is bit `lo`. -/
def field2 (b : Byte) (lo : Nat) : BitVec 2 := b.extractLsb' lo 2

/-- The P0CONH or P0CONL code of pin P0.n (R35, R36). -/
def p0Code (p : Ports) (n : Nat) : BitVec 2 :=
  if n < 4 then field2 p.p0conl (2 * n) else field2 p.p0conh (2 * (n - 4))

/-- The mode of pin P0.n (R35, R36). -/
def p0Mode (p : Ports) (n : Nat) : PinMode :=
  match p0Code p n with
  | 0x0#2 => .input
  | 0x1#2 => if n = 6 then .alternative else .input
  | 0x2#2 => .pushPull
  | _ => .analog

/-- Whether P1.0 and P1.1 are ordinary pins: only with the internal oscillator (R270; log 23). -/
def internalOscillator : Oscillator → Bool
  | .internalRc3200 => true
  | .internalRc500 => true
  | .externalRc => false
  | .crystal => false

/-- The mode of pin P1.n: P1CON for P1.0 and P1.1 (R38), input only for P1.2, which is the RESET
pin where the LVR is off (R300 (b), (c)). -/
def p1Mode (c : Params) (p : Ports) (n : Nat) : PinMode :=
  match n with
  | 0 =>
    if internalOscillator c.oscillator then
      if field2 p.p1con 0 = 2 then (if p.p1con.getLsbD 6 then .openDrain else .pushPull)
      else .input
    else .taken
  | 1 =>
    if internalOscillator c.oscillator then
      if field2 p.p1con 2 = 2 then (if p.p1con.getLsbD 7 then .openDrain else .pushPull)
      else .input
    else .taken
  | _ => if c.lvrEnable then .input else .taken

/-- The mode of pins P2.1 to P2.5 from their two-bit code (R39, R40). -/
def p2Mode2 (code : BitVec 2) : PinMode :=
  match code with
  | 0x0#2 => .input
  | 0x1#2 => .input
  | 0x2#2 => .pushPull
  | _ => .openDrain

/-- The mode of pin P2.6 (R39). -/
def p26Mode (p : Ports) : PinMode :=
  match p.p2conh.extractLsb' 4 3 with
  | 0x0#3 => .input
  | 0x1#3 => .input
  | 0x2#3 => .analog
  | 0x3#3 => .analog
  | 0x4#3 => .pushPull
  | 0x5#3 => .openDrain
  | 0x6#3 => .openDrain
  | _ => .alternative

/-- The mode of pin P2.0 (R40). -/
def p20Mode (p : Ports) : PinMode :=
  match field2 p.p2conl 0 with
  | 0x0#2 => .input
  | 0x1#2 => .input
  | 0x2#2 => .pushPull
  | _ => .alternative

/-- The mode of pin P2.n (R39, R40). -/
def p2Mode (p : Ports) (n : Nat) : PinMode :=
  match n with
  | 0 => p20Mode p
  | 1 => p2Mode2 (field2 p.p2conl 2)
  | 2 => p2Mode2 (field2 p.p2conl 4)
  | 3 => p2Mode2 (field2 p.p2conl 6)
  | 4 => p2Mode2 (field2 p.p2conh 0)
  | 5 => p2Mode2 (field2 p.p2conh 2)
  | _ => p26Mode p

/-! ### Reading a data register (R300 (b)) -/

/-- The byte whose bit n is `f n`. -/
def byteOf (f : Nat → Bool) : Byte :=
  BitVec.ofBool (f 7) ++ BitVec.ofBool (f 6) ++ BitVec.ofBool (f 5) ++ BitVec.ofBool (f 4) ++
    BitVec.ofBool (f 3) ++ BitVec.ofBool (f 2) ++ BitVec.ofBool (f 1) ++ BitVec.ofBool (f 0)

/-- Whether the document says what a read of a pin in this mode returns. -/
def PinMode.readable : PinMode → Bool
  | .input => true
  | .pushPull => true
  | .openDrain => false
  | .analog => false
  | .alternative => false
  | .taken => false

/-- What a read of a pin returns where it is determined: the level of an input, the latch of a
push-pull output. -/
def PinMode.readBit (m : PinMode) (level latch : Bool) : Bool :=
  match m with
  | .input => level
  | .pushPull => latch
  | .openDrain => false
  | .analog => false
  | .alternative => false
  | .taken => false

/-- The determined bits of a read of P0. -/
def p0Read (s : State) : Byte :=
  byteOf fun n => (p0Mode s.ports n).readBit (s.pins.p0.getLsbD n) (s.ports.p0.getLsbD n)

/-- The undetermined bits of a read of P0. -/
def p0FreeMask (s : State) : Byte := byteOf fun n => !(p0Mode s.ports n).readable

/-- The determined bits of a read of P1 (bits 7-3 are not used). -/
def p1Read (s : State) : Byte :=
  byteOf fun n => decide (n < 3) &&
    (p1Mode s.cfg s.ports n).readBit (s.pins.p1.getLsbD n) (s.ports.p1.getLsbD n)

/-- The undetermined bits of a read of P1. -/
def p1FreeMask (s : State) : Byte :=
  byteOf fun n => !(decide (n < 3) && (p1Mode s.cfg s.ports n).readable)

/-- The determined bits of a read of P2 (bit 7 is not used). -/
def p2Read (s : State) : Byte :=
  byteOf fun n => decide (n < 7) &&
    (p2Mode s.ports n).readBit (s.pins.p2.getLsbD n) (s.ports.p2.getLsbD n)

/-- The undetermined bits of a read of P2. -/
def p2FreeMask (s : State) : Byte :=
  byteOf fun n => !(decide (n < 7) && (p2Mode s.ports n).readable)

/-! ### What the chip drives -/

/-- Whether a PWM cycle is stretched: the cycle is numbered 0 to 3 by `pwmcnt` bits 7-6
(R291, Table 11-2). -/
def pwmStretched (cycle ext : BitVec 2) : Bool :=
  match ext with
  | 0x0#2 => false
  | 0x1#2 => cycle == 1
  | 0x2#2 => cycle == 0 || cycle == 2
  | _ => cycle != 3

/-- The PWM output signal `pwmout` (R291; log 25). -/
def pwmOut (p : Pwm) : Bool :=
  decide ((p.cnt.extractLsb' 0 6).toNat <
    (p.buf.extractLsb' 2 6).toNat +
      (if pwmStretched (p.cnt.extractLsb' 6 2) (p.buf.extractLsb' 0 2) then 1 else 0))

/-- What the chip puts on a pin: a level, or nothing (an open drain drives only low; the
alternative function drives `signal`). -/
def PinMode.drive (m : PinMode) (latch signal : Bool) : Option Bool :=
  match m with
  | .input => none
  | .pushPull => some latch
  | .openDrain => if latch then none else some false
  | .analog => none
  | .alternative => some signal
  | .taken => none

/-- What the chip drives on pin P0.n; the alternative function is the PWM output on P0.6. -/
def p0Drive (s : State) (n : Nat) : Option Bool :=
  (p0Mode s.ports n).drive (s.ports.p0.getLsbD n) (pwmOut s.pwm)

/-- What the chip drives on pin P1.n. -/
def p1Drive (s : State) (n : Nat) : Option Bool :=
  (p1Mode s.cfg s.ports n).drive (s.ports.p1.getLsbD n) false

/-- What the chip drives on pin P2.n; the alternative functions are T0 on P2.0 and CLO on P2.6. -/
def p2Drive (s : State) (n : Nat) : Option Bool :=
  (p2Mode s.ports n).drive (s.ports.p2.getLsbD n) (if n = 0 then s.t0.out else s.clo)

/-! ### Pending bits and edges -/

/-- `set_pending` (R283): the pending bit, bit `pend`, of an enable-and-pending register; it is set
unless disabled sources never become pending and bit `enable` is 0 (R234 (d)). -/
def setPending (c : Params) (reg : Byte) (enable pend : Nat) : Byte :=
  if c.pendWhenDisabled || reg.getLsbD enable then reg ||| BitVec.twoPow 8 pend else reg

/-- Whether pin P0.n detects edges: only in the two input codes (R303). -/
def edgeEnabled (p : Ports) (n : Nat) : Bool := p0Code p n == 0 || p0Code p n == 1

/-- P0PND after the level of P0.0 or P0.1 changes (R303): a falling edge sets bit 2n. -/
def edgePending (c : Params) (p : Ports) (n : Nat) (prev now : Bool) : Byte :=
  if prev && !now && edgeEnabled p n then setPending c p.p0pnd (2 * n + 1) (2 * n) else p.p0pnd

/-- The environment changes the port pin levels; both edge detectors act (R303). -/
def changePins (p0 : BitVec 8) (p1 : BitVec 3) (p2 : BitVec 7) (s : State) : State :=
  let ports0 := { s.ports with
    p0pnd := edgePending s.cfg s.ports 0 s.pins.intPrev0 (p0.getLsbD 0) }
  let ports1 := { ports0 with
    p0pnd := edgePending s.cfg ports0 1 s.pins.intPrev1 (p0.getLsbD 1) }
  { s with
    ports := ports1
    pins := { s.pins with
      p0 := p0, p1 := p1, p2 := p2, intPrev0 := p0.getLsbD 0, intPrev1 := p0.getLsbD 1 } }

end Sys2Proof.Machine
end

