-- ==== Sys2Proof/Machine/Registers.lean ====
section
/-! DEFINITION. The register file `x[a]` (00_scope.md R11): which register stands at each of the
256 addresses (10_state.md R21), what a read of it returns and what a write to it does, bit by bit
(R22 to R46; 20_memory.md R60; 60_exceptions.md R276, R283, R290, R296, R300). -/

namespace Sys2Proof.Machine

/-- What stands at a register-file address (R19, R21). -/
inductive FileReg where
  | ram
  | t0cnt | t0data | t0con | clkcon | flags | sp | mdsreg | btcon | btcnt | ftstcon | sym
  | p0 | p1 | p2 | p0conh | p0conl | p0pnd | p1con | p2conh | p2conl
  | pwmdata | pwmcon | stopcon | adcon | addatah | addatal
  | reserved
deriving DecidableEq, Repr

/-- The control register at an address from D0H up (R21). -/
def controlRegister (a : Byte) : FileReg :=
  match a with
  | 0xD0#8 => .t0cnt
  | 0xD1#8 => .t0data
  | 0xD2#8 => .t0con
  | 0xD4#8 => .clkcon
  | 0xD5#8 => .flags
  | 0xD9#8 => .sp
  | 0xDB#8 => .mdsreg
  | 0xDC#8 => .btcon
  | 0xDD#8 => .btcnt
  | 0xDE#8 => .ftstcon
  | 0xDF#8 => .sym
  | 0xE0#8 => .p0
  | 0xE1#8 => .p1
  | 0xE2#8 => .p2
  | 0xE6#8 => .p0conh
  | 0xE7#8 => .p0conl
  | 0xE8#8 => .p0pnd
  | 0xE9#8 => .p1con
  | 0xEA#8 => .p2conh
  | 0xEB#8 => .p2conl
  | 0xF2#8 => .pwmdata
  | 0xF3#8 => .pwmcon
  | 0xF4#8 => .stopcon
  | 0xF7#8 => .adcon
  | 0xF8#8 => .addatah
  | 0xF9#8 => .addatal
  | _ => .reserved

/-- What stands at an address: plain storage below D0H, the map of R21 from there. -/
def regAt (a : Byte) : FileReg := if a.toNat < ramSize then .ram else controlRegister a

/-- The address of FLAGS. -/
def flagsAddr : Byte := 0xD5

/-- The register-file address of working register Rn (R14). -/
def wr (n : WReg) : Byte := 0xC0 + n.zeroExtend 8

/-- The working register Rp that holds the high byte of RRp (R15). -/
def pairReg (p : Pair) : WReg := p ++ 0#1

/-! ### Reading -/

/-- The determined bits of a read (R23 to R46, R300); undetermined bits are 0 here. -/
def storedByte (a : Byte) (s : State) : Byte :=
  match regAt a with
  | .ram => cellRead ramDefault s.ram a.toNat
  | .t0cnt => s.t0.cnt
  | .t0data => s.t0.data
  | .t0con => s.t0.con
  | .clkcon => s.clkcon
  | .flags => s.flags
  | .sp => s.sp
  | .mdsreg => s.mdsreg
  | .btcon => s.bt.con
  | .btcnt => s.bt.cnt
  | .ftstcon => 0
  | .sym => s.sym
  | .p0 => p0Read s
  | .p1 => p1Read s
  | .p2 => p2Read s
  | .p0conh => s.ports.p0conh
  | .p0conl => s.ports.p0conl
  | .p0pnd => s.ports.p0pnd
  | .p1con => s.ports.p1con
  | .p2conh => s.ports.p2conh
  | .p2conl => s.ports.p2conl
  | .pwmdata => s.pwm.data
  | .pwmcon => s.pwm.con
  | .stopcon => s.stopcon
  | .adcon => s.adc.con
  | .addatah => s.adc.datah
  | .addatal => s.adc.datal
  | .reserved => 0

/-- The bits that read as `anybit`: unused bits, reserved addresses, the write-only FTSTCON
(R22), ADCON.0 (R296), and port pins whose reading is not settled (R300 (b)). -/
def freeMask (a : Byte) (s : State) : Byte :=
  match regAt a with
  | .ram => 0
  | .t0cnt => 0
  | .t0data => 0
  | .t0con => 0x34
  | .clkcon => 0x67
  | .flags => 0x0F
  | .sp => 0
  | .mdsreg => 0
  | .btcon => 0
  | .btcnt => 0
  | .ftstcon => 0xFF
  | .sym => 0xF8
  | .p0 => p0FreeMask s
  | .p1 => p1FreeMask s
  | .p2 => p2FreeMask s
  | .p0conh => 0
  | .p0conl => 0
  | .p0pnd => 0xF0
  | .p1con => 0x30
  | .p2conh => 0x80
  | .p2conl => 0
  | .pwmdata => 0
  | .pwmcon => 0x20
  | .stopcon => 0
  | .adcon => 0x01
  | .addatah => 0
  | .addatal => 0
  | .reserved => 0xFF

/-- A byte whose bits in `mask` come from `free` and the others from `known`. -/
def mixBits (mask free known : Byte) : Byte := (free &&& mask) ||| (known &&& ~~~mask)

/-- The value a read of address `a` returns: `storedByte` with the next free value in the bits of
`freeMask`. -/
def peek (a : Byte) (s : State) : Byte :=
  if freeMask a s = 0 then storedByte a s
  else mixBits (freeMask a s) (Config.freeByte s.draws) (storedByte a s)

/-- The next free value is used up. -/
def State.drawn (s : State) : State := { s with draws := s.draws + 1 }

/-- The state after a read of address `a`: no register is changed by a read (R60); a free value is
drawn where the read has free bits. -/
def afterRead (a : Byte) (s : State) : State := if freeMask a s = 0 then s else s.drawn

/-- The read `x[a]`: its value and the state after it. -/
def readReg (a : Byte) (s : State) : Byte × State := (peek a s, afterRead a s)

/-! ### Writing -/

/-- Why a write is refused, if it is: the reserved addresses, the read-only registers and the
three registers with values that the spec leaves undefined (R22, R28, R30, R31). -/
def writeRefusal (a v : Byte) : Option Refusal :=
  match regAt a with
  | .ram => none
  | .t0cnt => some (.writeToReadOnly a)
  | .t0data => none
  | .t0con => none
  | .clkcon => none
  | .flags => none
  | .sp => none
  | .mdsreg => none
  | .btcon => if field2 v 2 = 3 then some .btconIllegalClock else none
  | .btcnt => some (.writeToReadOnly a)
  | .ftstcon => if v &&& 0x3F = 0 then none else some .ftstconNotZero
  | .sym => if field2 v 0 = 0 then none else some .symPageSelect
  | .p0 => none
  | .p1 => none
  | .p2 => none
  | .p0conh => none
  | .p0conl => none
  | .p0pnd => none
  | .p1con => none
  | .p2conh => none
  | .p2conl => none
  | .pwmdata => none
  | .pwmcon => none
  | .stopcon => none
  | .adcon => none
  | .addatah => some (.writeToReadOnly a)
  | .addatal => some (.writeToReadOnly a)
  | .reserved => some (.reservedRegister a)

/-- A register with stored bits `keep` and write-0-to-clear pending bits `pend`, after `v` is
written (R25, R37, R42). -/
def writePending (keep pend old v : Byte) : Byte := (v &&& keep) ||| (old &&& v &&& pend)

/-- T0CON written: a 1 in bit 3 clears the count at this write (R25, R283). -/
def writeT0con (v : Byte) (t : Timer0) : Timer0 :=
  { t with con := writePending 0xCA 0x01 t.con v, cnt := if v.getLsbD 3 then 0 else t.cnt }

/-- BTCON written: bits 7-2 stored, a 1 in bit 1 clears BTCNT (R28, R276). -/
def writeBtcon (v : Byte) (b : BasicTimer) : BasicTimer :=
  { b with con := v &&& 0xFC, cnt := if v.getLsbD 1 then 0 else b.cnt }

/-- PWMCON written: a 1 in bit 3 clears the count at this write (R42, R290). -/
def writePwmcon (v : Byte) (p : Pwm) : Pwm :=
  { p with con := writePending 0xDE 0x01 p.con v, cnt := if v.getLsbD 3 then 0 else p.cnt }

/-- Oscillator periods per A/D clock for ADCON.2-1 (R44, R296). -/
def adcDivider (code : BitVec 2) : Nat :=
  match code with
  | 0x0#2 => 16
  | 0x1#2 => 8
  | 0x2#2 => 4
  | _ => 1

/-- ADCON written: bits 7-4 and 2-1 stored, bit 3 ignored, a 1 in bit 0 starts a conversion of 50
A/D clocks (R296). -/
def writeAdcon (v : Byte) (c : Adc) : Adc :=
  if v.getLsbD 0 then
    { c with con := v &&& 0xF6, busy := true, sar := 0x200,
             timer := 50 * adcDivider (field2 v 1) }
  else { c with con := (v &&& 0xF6) ||| (c.con &&& 0x08) }

/-- The general-purpose bytes set. -/
def State.setRam (m : Memory) (s : State) : State := { s with ram := m }

/-- The effect of a write that is not refused (R17 to R46, R60). -/
def storeReg (a v : Byte) (s : State) : State :=
  match regAt a with
  | .ram => s.setRam (cellWrite ramDefault s.ram a.toNat v)
  | .t0cnt => s
  | .t0data => { s with t0 := { s.t0 with data := v } }
  | .t0con => { s with t0 := writeT0con v s.t0 }
  | .clkcon => { s with clkcon := v &&& 0x98 }
  | .flags => { s with flags := v &&& 0xF0 }
  | .sp => { s with sp := v }
  | .mdsreg => { s with mdsreg := v }
  | .btcon => { s with bt := writeBtcon v s.bt, div := if v.getLsbD 0 then 0 else s.div }
  | .btcnt => s
  | .ftstcon => { s with ftstcon := v &&& 0x3F }
  | .sym => { s with sym := v &&& 0x07 }
  | .p0 => { s with ports := { s.ports with p0 := v } }
  | .p1 => { s with ports := { s.ports with p1 := v &&& 0x07 } }
  | .p2 => { s with ports := { s.ports with p2 := v &&& 0x7F } }
  | .p0conh => { s with ports := { s.ports with p0conh := v } }
  | .p0conl => { s with ports := { s.ports with p0conl := v } }
  | .p0pnd => { s with ports := { s.ports with p0pnd := writePending 0x0A 0x05 s.ports.p0pnd v } }
  | .p1con => { s with ports := { s.ports with p1con := v &&& 0xCF } }
  | .p2conh => { s with ports := { s.ports with p2conh := v &&& 0x7F } }
  | .p2conl => { s with ports := { s.ports with p2conl := v } }
  | .pwmdata => { s with pwm := { s.pwm with data := v } }
  | .pwmcon => { s with pwm := writePwmcon v s.pwm }
  | .stopcon => { s with stopcon := v }
  | .adcon => { s with adc := writeAdcon v s.adc }
  | .addatah => s
  | .addatal => s
  | .reserved => s

/-- The write `x[a] <- v`: refused, or the effect of `storeReg`. -/
def writeReg (a v : Byte) (s : State) : Host.Outcome State Fault Refusal :=
  match writeRefusal a v with
  | some r => .refused r
  | none => .next (storeReg a v s)

end Sys2Proof.Machine
end

