-- ==== Sys2Proof/Machine/Ops.lean ====
section
/-! DEFINITION. The named operations the instructions are built from: sequencing, register pairs,
the stack (20_memory.md R61), program and data memory (R52 to R54), the flags after a store
(41_arithmetic.md R160 (d)), and taking and returning from an interrupt (60_exceptions.md R235 to
R238). -/

namespace Sys2Proof.Machine

/-- One outcome after another: the second acts on the next state of the first. -/
def andThen (o : Host.Outcome State Fault Refusal)
    (f : State → Host.Outcome State Fault Refusal) : Host.Outcome State Fault Refusal :=
  match o with
  | .next s => f s
  | .fault r => .fault r
  | .refused r => .refused r

/-! ### The program counter -/

/-- The address `n` bytes on, modulo 65536 (R16). -/
def State.npc (n : Nat) (s : State) : Word := s.pc + BitVec.ofNat 16 n

/-- `pc <- npc` for an instruction of `n` bytes. -/
def State.advance (n : Nat) (s : State) : State := { s with pc := s.npc n }

/-- `pc <- t`. -/
def State.goto (t : Word) (s : State) : State := { s with pc := t }

/-- The power state set. -/
def State.setMode (m : Mode) (s : State) : State := { s with mode := m }

/-! ### Register pairs (R15) -/

/-- The pair read `xx[a]`: high byte at `a`, low byte at the next address. -/
def readPair (a : Byte) (s : State) : Word × State :=
  let h := readReg a s
  let l := readReg (a + 1) h.2
  (wordOf h.1 l.1, l.2)

/-- The value of working register pair RRp. -/
def pairValue (p : Pair) (s : State) : Word :=
  wordOf (peek (wr (pairReg p)) s) (peek (wr (pairReg p) + 1) s)

/-- Working register pair RRp written. -/
def setPair (p : Pair) (w : Word) (s : State) : State :=
  storeReg (wr (pairReg p) + 1) (loByte w) (storeReg (wr (pairReg p)) (hiByte w) s)

/-! ### The stack (R61) -/

/-- SP set. -/
def State.setSp (v : Byte) (s : State) : State := { s with sp := v }

/-- `push(v)`: decrement SP, then store. -/
def push (v : Byte) (s : State) : Host.Outcome State Fault Refusal :=
  writeReg (s.sp - 1) v (s.setSp (s.sp - 1))

/-- `pop()`: load, then increment SP. -/
def pop (s : State) : Byte × State :=
  let v := readReg s.sp s
  (v.1, v.2.setSp (v.2.sp + 1))

/-- A word pushed low byte first, so that its high byte is at the lower address (R57 (c)). -/
def pushWord (w : Word) (s : State) : Host.Outcome State Fault Refusal :=
  andThen (push (loByte w) s) fun t => push (hiByte w) t

/-- A word popped high byte first. -/
def popWord (s : State) : Word × State :=
  let h := pop s
  let l := pop h.2
  (wordOf h.1 l.1, l.2)

/-! ### Program and data memory -/

/-- The byte of program memory at `a`. -/
def progByte (a : Word) (s : State) : Byte := cellRead progDefault s.prog a.toNat

/-- `MemRead(prog:a, 1)`, given to what follows; a fault at or above ROM_SIZE (R52). -/
def withProgByte (a : Word) (s : State) (k : Byte → Host.Outcome State Fault Refusal) :
    Host.Outcome State Fault Refusal :=
  if a.toNat < s.cfg.romSize then k (progByte a s) else .fault (.programAddressOutOfRange a)

/-- `MemWrite(prog:a, 1, v)`: refused where program memory is constant, as on every part in scope
(R53; log 15). -/
def writeProg (a : Word) (v : Byte) (s : State) : Host.Outcome State Fault Refusal :=
  if s.cfg.progWritable then
    if a.toNat < s.cfg.romSize then
      .next { s with prog := cellWrite progDefault s.prog a.toNat v }
    else .fault (.programAddressOutOfRange a)
  else .refused .storeToProgramMemory

/-- The byte of data memory at `a`. -/
def dataByte (a : Word) (s : State) : Byte := cellRead dataDefault s.data a.toNat

/-- `MemRead(data:a, 1)`, given to what follows; refused where there is no data memory (R54). -/
def withDataByte (a : Word) (s : State) (k : Byte → Host.Outcome State Fault Refusal) :
    Host.Outcome State Fault Refusal :=
  if s.cfg.hasDataMem then k (dataByte a s) else .refused .noDataMemory

/-- `MemWrite(data:a, 1, v)`: refused where there is no data memory (R54). -/
def writeData (a : Word) (v : Byte) (s : State) : Host.Outcome State Fault Refusal :=
  if s.cfg.hasDataMem then .next { s with data := cellWrite dataDefault s.data a.toNat v }
  else .refused .noDataMemory

/-! ### Flags -/

/-- FLAGS.7-4 set to the given flags; FLAGS.3-0 are never written (R160 (b)). -/
def State.setFlags (f : Czsv) (s : State) : State :=
  { s with flags := mixBits 0xF0 f.toByte s.flags }

/-- FLAGS.7-4 free: the outcome of an instruction that writes FLAGS twice (R160 (d), R331). -/
def State.freeFlags (s : State) : State :=
  { s with flags := mixBits 0xF0 (Config.freeByte s.draws) s.flags, draws := s.draws + 1 }

/-- The flags after a result has been stored at `a`: those of the operation, or free where the
destination was FLAGS itself. -/
def flagsAfterStore (a : Byte) (f : Czsv) (s : State) : State :=
  if a = flagsAddr then s.freeFlags else s.setFlags f

/-! ### Interrupts (R235 to R238) -/

/-- The global interrupt enable, SYM.GIE_BIT (R30). -/
def State.gie (s : State) : Bool := s.sym.getLsbD Config.gieBit

/-- GIE set or cleared, the other bits of SYM unchanged. -/
def State.setGie (b : Bool) (s : State) : State :=
  { s with sym := if b then s.sym ||| BitVec.twoPow 8 Config.gieBit
                  else s.sym &&& ~~~(BitVec.twoPow 8 Config.gieBit) }

/-- The request of the two external sources (R235). -/
def State.irqExt (s : State) : Bool :=
  (s.ports.p0pnd.getLsbD 1 && s.ports.p0pnd.getLsbD 0) ||
    (s.ports.p0pnd.getLsbD 3 && s.ports.p0pnd.getLsbD 2)

/-- The interrupt request line (R235). -/
def State.irq (s : State) : Bool :=
  (s.t0.con.getLsbD 1 && s.t0.con.getLsbD 0) || (s.pwm.con.getLsbD 1 && s.pwm.con.getLsbD 0) ||
    s.irqExt

/-- The interrupt vector: ROM 0000H high byte, 0001H low byte (R51, R57 (b)). -/
def withVector (s : State) (k : Word → Host.Outcome State Fault Refusal) :
    Host.Outcome State Fault Refusal :=
  withProgByte 0x0000 s fun h => withProgByte 0x0001 s fun l => k (wordOf h l)

/-- TAKING AN INTERRUPT (R237): GIE is cleared; the address of the next instruction and FLAGS are
pushed; the pc goes to the vector. Nothing else changes. -/
def interruptEntry (s : State) : Host.Outcome State Fault Refusal :=
  andThen (pushWord s.pc (s.setGie false)) fun t =>
    let f := readReg flagsAddr t
    andThen (push f.1 f.2) fun u => withVector u fun w => .next (u.goto w)

/-- RETURNING FROM AN INTERRUPT (R191, R238): FLAGS and the pc are popped, GIE is set. -/
def interruptReturn (s : State) : Host.Outcome State Fault Refusal :=
  let f := pop s
  andThen (writeReg flagsAddr f.1 f.2) fun t =>
    let w := popWord t
    .next ((w.2.goto w.1).setGie true)

end Sys2Proof.Machine
end

