-- ==== Sys2Proof/Machine/Operands.lean ====
section
/-! DEFINITION. The operand forms of the register file (20_memory.md R68, 30_encoding.md R102,
R111, R112) and the shapes that instructions over them share: a result stored with flags, flags
only, a move. -/

namespace Sys2Proof.Machine

/-- An operand in the register file. -/
inductive Operand where
  /-- `r`: working register Rn. -/
  | r (n : WReg)
  /-- `Ir`: the byte that Rn points to. -/
  | ir (n : WReg)
  /-- `R`: the byte at an 8-bit address. -/
  | reg (a : Byte)
  /-- `IR`: the byte that the register at an 8-bit address points to. -/
  | ireg (a : Byte)
  /-- `X`: the byte at an 8-bit base plus Rn, modulo 256. -/
  | x (base : Byte) (n : WReg)
deriving DecidableEq, Repr

/-- A source operand: a place in the register file, or an immediate. -/
inductive Source where
  | place (o : Operand)
  | imm (v : Byte)
deriving DecidableEq, Repr

/-- The register-file address of an operand, and the state after its pointer is read. -/
def Operand.address : Operand → State → Byte × State
  | .r n, s => (wr n, s)
  | .ir n, s => readReg (wr n) s
  | .reg a, s => (a, s)
  | .ireg a, s => readReg a s
  | .x b n, s => (b + (readReg (wr n) s).1, (readReg (wr n) s).2)

/-- The value of a source, and the state after it is read. -/
def Source.value : Source → State → Byte × State
  | .place o, s => readReg (o.address s).1 (o.address s).2
  | .imm v, s => (v, s)

/-- The two-operand fetch of R111: destination address, destination value, source value, and the
state after the reads; pointers first (92_eei_decisions.md D31). -/
structure Fetched where
  addr : Byte
  dv : Byte
  sv : Byte
  after : State
deriving DecidableEq, Repr

/-- The operands of a two-operand instruction. -/
def fetchTwo (dst : Operand) (src : Source) (s : State) : Fetched :=
  let d := dst.address s
  let v := src.value d.2
  let o := readReg d.1 v.2
  { addr := d.1, dv := o.1, sv := v.1, after := o.2 }

/-- A result stored at `a`, then the flags, then `pc <- npc` (R160 (d)). -/
def storeResult (len : Nat) (a : Byte) (out : Alu) (s : State) :
    Host.Outcome State Fault Refusal :=
  andThen (writeReg a out.1 s) fun t => .next ((flagsAfterStore a out.2 t).advance len)

/-- A two-operand instruction that stores its result. -/
def twoStore (op : Czsv → Byte → Byte → Alu) (len : Nat) (dst : Operand) (src : Source)
    (s : State) : Host.Outcome State Fault Refusal :=
  let f := fetchTwo dst src s
  storeResult len f.addr (op s.czsv f.dv f.sv) f.after

/-- A two-operand instruction that only sets flags. -/
def twoTest (op : Czsv → Byte → Byte → Alu) (len : Nat) (dst : Operand) (src : Source)
    (s : State) : Host.Outcome State Fault Refusal :=
  let f := fetchTwo dst src s
  .next ((f.after.setFlags (op s.czsv f.dv f.sv).2).advance len)

/-- A one-operand instruction that stores its result (R112). -/
def oneStore (op : Czsv → Byte → Alu) (len : Nat) (dst : Operand) (s : State) :
    Host.Outcome State Fault Refusal :=
  let d := dst.address s
  let o := readReg d.1 d.2
  storeResult len d.1 (op s.czsv o.1) o.2

/-- A move: no flag is written (40_load.md R130). -/
def move (len : Nat) (dst : Operand) (src : Source) (s : State) :
    Host.Outcome State Fault Refusal :=
  let d := dst.address s
  let v := src.value d.2
  andThen (writeReg d.1 v.1 v.2) fun t => .next (t.advance len)

/-- PUSH (R145): the address first, then SP is decremented, then the source is read and stored. -/
def pushOperand (len : Nat) (src : Operand) (s : State) : Host.Outcome State Fault Refusal :=
  let a := src.address s
  let v := readReg a.1 (a.2.setSp (a.2.sp - 1))
  andThen (writeReg v.2.sp v.1 v.2) fun t => .next (t.advance len)

/-- POP (R144): the address first, then the byte is stored, then SP is incremented. -/
def popOperand (len : Nat) (dst : Operand) (s : State) : Host.Outcome State Fault Refusal :=
  let a := dst.address s
  let v := readReg a.2.sp a.2
  andThen (writeReg a.1 v.1 v.2) fun t => .next ((t.setSp (t.sp + 1)).advance len)

/-! ### Addresses of program and data memory (R103, R68) -/

/-- `Irr`: the pair itself. -/
def eaPair (p : Pair) (s : State) : Word := pairValue p s

/-- `XS`: the pair plus a signed 8-bit offset, modulo 65536. -/
def eaShort (xs : Byte) (p : Pair) (s : State) : Word := pairValue p s + sext16 xs

/-- `XL`: the pair plus a 16-bit offset, modulo 65536. -/
def eaLong (xl : Word) (p : Pair) (s : State) : Word := pairValue p s + xl

/-- Working register Rn set, then `pc <- npc`. -/
def loadWorking (len : Nat) (d : WReg) (s : State) (v : Byte) :
    Host.Outcome State Fault Refusal :=
  .next ((storeReg (wr d) v s).advance len)

/-- LDC load forms (R137). -/
def loadProg (len : Nat) (d : WReg) (ea : Word) (s : State) : Host.Outcome State Fault Refusal :=
  withProgByte ea s (loadWorking len d s)

/-- LDE load forms (R139). -/
def loadData (len : Nat) (d : WReg) (ea : Word) (s : State) : Host.Outcome State Fault Refusal :=
  withDataByte ea s (loadWorking len d s)

/-- LDC store forms (R138). -/
def storeProg (len : Nat) (ea : Word) (r : WReg) (s : State) : Host.Outcome State Fault Refusal :=
  andThen (writeProg ea (peek (wr r) s) s) fun t => .next (t.advance len)

/-- LDE store forms (R139). -/
def storeData (len : Nat) (ea : Word) (r : WReg) (s : State) : Host.Outcome State Fault Refusal :=
  andThen (writeData ea (peek (wr r) s) s) fun t => .next (t.advance len)

/-- The second half of LDCD, LDCI, LDED, LDEI: the loaded byte is stored, then the pair as it then
stands is stepped (R140, R142; 92_eei_decisions.md D31). -/
def loadThenStep (delta : Word) (d : WReg) (p : Pair) (s : State) (v : Byte) :
    Host.Outcome State Fault Refusal :=
  let t := storeReg (wr d) v s
  .next ((setPair p (pairValue p t + delta) t).advance 2)

/-! ### Control transfer (R190, R192, R193) -/

/-- The pair operand IRR of JP and CALL, given to what follows; an odd address is refused (R58). -/
def withTargetPair (a : Byte) (s : State) (k : Word → State → Host.Outcome State Fault Refusal) :
    Host.Outcome State Fault Refusal :=
  if a.getLsbD 0 then .refused (.oddRegisterPair a)
  else k (readPair a s).1 (readPair a s).2

/-- A call of `target` by an instruction of `len` bytes: the next address is pushed (R190). -/
def callTo (len : Nat) (target : Word) (s : State) : Host.Outcome State Fault Refusal :=
  andThen (pushWord (s.npc len) s) fun t => .next (t.goto target)

/-- A conditional transfer by an instruction of `len` bytes. -/
def jumpIf (len : Nat) (cc : Cond) (target : Word) (s : State) :
    Host.Outcome State Fault Refusal :=
  .next (if s.czsv.holds cc then s.goto target else s.advance len)

end Sys2Proof.Machine
end

