-- ==== Sys2Proof/Machine/Arithmetic.lean ====
section
/-! DEFINITION. The arithmetic instructions (41_arithmetic.md R160 to R167):
one meaning per encoding form, each over a shared operation of Operands.lean and Ops.lean. -/

namespace Sys2Proof.Machine

/-- `12` ADC r,r (R161). -/
def execAdc_r_r (dst : WReg) (src : WReg) (s : State) : Host.Outcome State Fault Refusal :=
  twoStore aluAdc 2 (.r dst) (.place (.r src)) s

/-- `13` ADC r,Ir (R161). -/
def execAdc_r_Ir (dst : WReg) (src : WReg) (s : State) : Host.Outcome State Fault Refusal :=
  twoStore aluAdc 2 (.r dst) (.place (.ir src)) s

/-- `14` ADC R,R (R161). -/
def execAdc_R_R (dst : Byte) (src : Byte) (s : State) : Host.Outcome State Fault Refusal :=
  twoStore aluAdc 3 (.reg dst) (.place (.reg src)) s

/-- `15` ADC R,IR (R161). -/
def execAdc_R_IR (dst : Byte) (src : Byte) (s : State) : Host.Outcome State Fault Refusal :=
  twoStore aluAdc 3 (.reg dst) (.place (.ireg src)) s

/-- `16` ADC R,IM (R161). -/
def execAdc_R_IM (dst : Byte) (imm : Byte) (s : State) : Host.Outcome State Fault Refusal :=
  twoStore aluAdc 3 (.reg dst) (.imm imm) s

/-- `02` ADD r,r (R162). -/
def execAdd_r_r (dst : WReg) (src : WReg) (s : State) : Host.Outcome State Fault Refusal :=
  twoStore aluAdd 2 (.r dst) (.place (.r src)) s

/-- `03` ADD r,Ir (R162). -/
def execAdd_r_Ir (dst : WReg) (src : WReg) (s : State) : Host.Outcome State Fault Refusal :=
  twoStore aluAdd 2 (.r dst) (.place (.ir src)) s

/-- `04` ADD R,R (R162). -/
def execAdd_R_R (dst : Byte) (src : Byte) (s : State) : Host.Outcome State Fault Refusal :=
  twoStore aluAdd 3 (.reg dst) (.place (.reg src)) s

/-- `05` ADD R,IR (R162). -/
def execAdd_R_IR (dst : Byte) (src : Byte) (s : State) : Host.Outcome State Fault Refusal :=
  twoStore aluAdd 3 (.reg dst) (.place (.ireg src)) s

/-- `06` ADD R,IM (R162). -/
def execAdd_R_IM (dst : Byte) (imm : Byte) (s : State) : Host.Outcome State Fault Refusal :=
  twoStore aluAdd 3 (.reg dst) (.imm imm) s

/-- `A2` CP r,r (R163). -/
def execCp_r_r (dst : WReg) (src : WReg) (s : State) : Host.Outcome State Fault Refusal :=
  twoTest aluCp 2 (.r dst) (.place (.r src)) s

/-- `A3` CP r,Ir (R163). -/
def execCp_r_Ir (dst : WReg) (src : WReg) (s : State) : Host.Outcome State Fault Refusal :=
  twoTest aluCp 2 (.r dst) (.place (.ir src)) s

/-- `A4` CP R,R (R163). -/
def execCp_R_R (dst : Byte) (src : Byte) (s : State) : Host.Outcome State Fault Refusal :=
  twoTest aluCp 3 (.reg dst) (.place (.reg src)) s

/-- `A5` CP R,IR (R163). -/
def execCp_R_IR (dst : Byte) (src : Byte) (s : State) : Host.Outcome State Fault Refusal :=
  twoTest aluCp 3 (.reg dst) (.place (.ireg src)) s

/-- `A6` CP R,IM (R163). -/
def execCp_R_IM (dst : Byte) (imm : Byte) (s : State) : Host.Outcome State Fault Refusal :=
  twoTest aluCp 3 (.reg dst) (.imm imm) s

/-- `00` DEC R (R164). -/
def execDec_R (dst : Byte) (s : State) : Host.Outcome State Fault Refusal :=
  oneStore aluDec 2 (.reg dst) s

/-- `01` DEC IR (R164). -/
def execDec_IR (dst : Byte) (s : State) : Host.Outcome State Fault Refusal :=
  oneStore aluDec 2 (.ireg dst) s

/-- `20` INC R (R165). -/
def execInc_R (dst : Byte) (s : State) : Host.Outcome State Fault Refusal :=
  oneStore aluInc 2 (.reg dst) s

/-- `21` INC IR (R165). -/
def execInc_IR (dst : Byte) (s : State) : Host.Outcome State Fault Refusal :=
  oneStore aluInc 2 (.ireg dst) s

/-- `rE` INC r (R165). -/
def execInc_r (dst : WReg) (s : State) : Host.Outcome State Fault Refusal :=
  oneStore aluInc 1 (.r dst) s

/-- `32` SBC r,r (R166). -/
def execSbc_r_r (dst : WReg) (src : WReg) (s : State) : Host.Outcome State Fault Refusal :=
  twoStore aluSbc 2 (.r dst) (.place (.r src)) s

/-- `33` SBC r,Ir (R166). -/
def execSbc_r_Ir (dst : WReg) (src : WReg) (s : State) : Host.Outcome State Fault Refusal :=
  twoStore aluSbc 2 (.r dst) (.place (.ir src)) s

/-- `34` SBC R,R (R166). -/
def execSbc_R_R (dst : Byte) (src : Byte) (s : State) : Host.Outcome State Fault Refusal :=
  twoStore aluSbc 3 (.reg dst) (.place (.reg src)) s

/-- `35` SBC R,IR (R166). -/
def execSbc_R_IR (dst : Byte) (src : Byte) (s : State) : Host.Outcome State Fault Refusal :=
  twoStore aluSbc 3 (.reg dst) (.place (.ireg src)) s

/-- `36` SBC R,IM (R166). -/
def execSbc_R_IM (dst : Byte) (imm : Byte) (s : State) : Host.Outcome State Fault Refusal :=
  twoStore aluSbc 3 (.reg dst) (.imm imm) s

/-- `22` SUB r,r (R167). -/
def execSub_r_r (dst : WReg) (src : WReg) (s : State) : Host.Outcome State Fault Refusal :=
  twoStore aluSub 2 (.r dst) (.place (.r src)) s

/-- `23` SUB r,Ir (R167). -/
def execSub_r_Ir (dst : WReg) (src : WReg) (s : State) : Host.Outcome State Fault Refusal :=
  twoStore aluSub 2 (.r dst) (.place (.ir src)) s

/-- `24` SUB R,R (R167). -/
def execSub_R_R (dst : Byte) (src : Byte) (s : State) : Host.Outcome State Fault Refusal :=
  twoStore aluSub 3 (.reg dst) (.place (.reg src)) s

/-- `25` SUB R,IR (R167). -/
def execSub_R_IR (dst : Byte) (src : Byte) (s : State) : Host.Outcome State Fault Refusal :=
  twoStore aluSub 3 (.reg dst) (.place (.ireg src)) s

/-- `26` SUB R,IM (R167). -/
def execSub_R_IM (dst : Byte) (imm : Byte) (s : State) : Host.Outcome State Fault Refusal :=
  twoStore aluSub 3 (.reg dst) (.imm imm) s

end Sys2Proof.Machine
end

