-- ==== Sys2Proof/Machine/BitTest.lean ====
section
/-! DEFINITION. The bit test instructions (44_bit_test.md R205, R206):
one meaning per encoding form, each over a shared operation of Operands.lean and Ops.lean. -/

namespace Sys2Proof.Machine

/-- `62` TCM r,r (R205). -/
def execTcm_r_r (dst : WReg) (src : WReg) (s : State) : Host.Outcome State Fault Refusal :=
  twoTest aluTcm 2 (.r dst) (.place (.r src)) s

/-- `63` TCM r,Ir (R205). -/
def execTcm_r_Ir (dst : WReg) (src : WReg) (s : State) : Host.Outcome State Fault Refusal :=
  twoTest aluTcm 2 (.r dst) (.place (.ir src)) s

/-- `64` TCM R,R (R205). -/
def execTcm_R_R (dst : Byte) (src : Byte) (s : State) : Host.Outcome State Fault Refusal :=
  twoTest aluTcm 3 (.reg dst) (.place (.reg src)) s

/-- `65` TCM R,IR (R205). -/
def execTcm_R_IR (dst : Byte) (src : Byte) (s : State) : Host.Outcome State Fault Refusal :=
  twoTest aluTcm 3 (.reg dst) (.place (.ireg src)) s

/-- `66` TCM R,IM (R205). -/
def execTcm_R_IM (dst : Byte) (imm : Byte) (s : State) : Host.Outcome State Fault Refusal :=
  twoTest aluTcm 3 (.reg dst) (.imm imm) s

/-- `72` TM r,r (R206). -/
def execTm_r_r (dst : WReg) (src : WReg) (s : State) : Host.Outcome State Fault Refusal :=
  twoTest aluTm 2 (.r dst) (.place (.r src)) s

/-- `73` TM r,Ir (R206). -/
def execTm_r_Ir (dst : WReg) (src : WReg) (s : State) : Host.Outcome State Fault Refusal :=
  twoTest aluTm 2 (.r dst) (.place (.ir src)) s

/-- `74` TM R,R (R206). -/
def execTm_R_R (dst : Byte) (src : Byte) (s : State) : Host.Outcome State Fault Refusal :=
  twoTest aluTm 3 (.reg dst) (.place (.reg src)) s

/-- `75` TM R,IR (R206). -/
def execTm_R_IR (dst : Byte) (src : Byte) (s : State) : Host.Outcome State Fault Refusal :=
  twoTest aluTm 3 (.reg dst) (.place (.ireg src)) s

/-- `76` TM R,IM (R206). -/
def execTm_R_IM (dst : Byte) (imm : Byte) (s : State) : Host.Outcome State Fault Refusal :=
  twoTest aluTm 3 (.reg dst) (.imm imm) s

end Sys2Proof.Machine
end

