-- ==== Sys2Proof/Machine/CpuControl.lean ====
section
/-! DEFINITION. The CPU control instructions (46_cpu_control.md R220 to R227):
one meaning per encoding form, each over a shared operation of Operands.lean and Ops.lean. -/

namespace Sys2Proof.Machine

/-- `EF` CCF (R220). -/
def execCcf (s : State) : Host.Outcome State Fault Refusal :=
  .next ((s.setFlags { s.czsv with c := !s.czsv.c }).advance 1)

/-- `8F` DI (R221). -/
def execDi (s : State) : Host.Outcome State Fault Refusal :=
  .next ((s.setGie false).advance 1)

/-- `9F` EI (R222). -/
def execEi (s : State) : Host.Outcome State Fault Refusal :=
  .next ((s.setGie true).advance 1)

/-- `6F` IDLE (R223): the mode only; what runs and what ends it is R242, R243. -/
def execIdle (s : State) : Host.Outcome State Fault Refusal :=
  .next ((s.advance 1).setMode .idle)

/-- `FF` NOP (R224): nothing but `pc <- npc`. -/
def execNop (s : State) : Host.Outcome State Fault Refusal :=
  .next (s.advance 1)

/-- `CF` RCF (R225). -/
def execRcf (s : State) : Host.Outcome State Fault Refusal :=
  .next ((s.setFlags { s.czsv with c := false }).advance 1)

/-- `DF` SCF (R226). -/
def execScf (s : State) : Host.Outcome State Fault Refusal :=
  .next ((s.setFlags { s.czsv with c := true }).advance 1)

/-- `7F` STOP (R227): STOP mode where STOPCON is A5H, else only `pc <- 0100H`. -/
def execStop (s : State) : Host.Outcome State Fault Refusal :=
  .next (if s.stopcon = 0xA5 then (s.advance 1).setMode .stop else s.goto 0x0100)

end Sys2Proof.Machine
end

