-- ==== Sys2Proof/Machine/Load.lean ====
section
/-! DEFINITION. The load instructions (40_load.md R130 to R145):
one meaning per encoding form, each over a shared operation of Operands.lean and Ops.lean. -/

namespace Sys2Proof.Machine

/-- `B0` CLR R (R131). -/
def execClr_R (dst : Byte) (s : State) : Host.Outcome State Fault Refusal :=
  move 2 (.reg dst) (.imm 0x00) s

/-- `B1` CLR IR (R131). -/
def execClr_IR (dst : Byte) (s : State) : Host.Outcome State Fault Refusal :=
  move 2 (.ireg dst) (.imm 0x00) s

/-- `rC` LD r,IM (R132). -/
def execLd_r_IM (dst : WReg) (imm : Byte) (s : State) : Host.Outcome State Fault Refusal :=
  move 2 (.r dst) (.imm imm) s

/-- `r8` LD r,R (R132). -/
def execLd_r_R (dst : WReg) (src : Byte) (s : State) : Host.Outcome State Fault Refusal :=
  move 2 (.r dst) (.place (.reg src)) s

/-- `r9` LD R,r (R132). -/
def execLd_R_r (dst : Byte) (src : WReg) (s : State) : Host.Outcome State Fault Refusal :=
  move 2 (.reg dst) (.place (.r src)) s

/-- `C7` LD r,Ir (R133). -/
def execLd_r_Ir (dst : WReg) (src : WReg) (s : State) : Host.Outcome State Fault Refusal :=
  move 2 (.r dst) (.place (.ir src)) s

/-- `D7` LD Ir,r (R133). -/
def execLd_Ir_r (dst : WReg) (src : WReg) (s : State) : Host.Outcome State Fault Refusal :=
  move 2 (.ir dst) (.place (.r src)) s

/-- `E4` LD R,R (R134). -/
def execLd_R_R (dst : Byte) (src : Byte) (s : State) : Host.Outcome State Fault Refusal :=
  move 3 (.reg dst) (.place (.reg src)) s

/-- `E5` LD R,IR (R134). -/
def execLd_R_IR (dst : Byte) (src : Byte) (s : State) : Host.Outcome State Fault Refusal :=
  move 3 (.reg dst) (.place (.ireg src)) s

/-- `E6` LD R,IM (R134). -/
def execLd_R_IM (dst : Byte) (imm : Byte) (s : State) : Host.Outcome State Fault Refusal :=
  move 3 (.reg dst) (.imm imm) s

/-- `D6` LD IR,IM (R135). -/
def execLd_IR_IM (dst : Byte) (imm : Byte) (s : State) : Host.Outcome State Fault Refusal :=
  move 3 (.ireg dst) (.imm imm) s

/-- `F5` LD IR,R (R135). -/
def execLd_IR_R (dst : Byte) (src : Byte) (s : State) : Host.Outcome State Fault Refusal :=
  move 3 (.ireg dst) (.place (.reg src)) s

/-- `87` LD r,x[r] (R136). -/
def execLd_r_X (dst : WReg) (x : Byte) (idx : WReg) (s : State) : Host.Outcome State Fault Refusal :=
  move 3 (.r dst) (.place (.x x idx)) s

/-- `97` LD x[r],r (R136). -/
def execLd_X_r (x : Byte) (idx : WReg) (src : WReg) (s : State) : Host.Outcome State Fault Refusal :=
  move 3 (.x x idx) (.place (.r src)) s

/-- `C3` LDC r,Irr (R137). -/
def execLdc_r_Irr (dst : WReg) (p : Pair) (s : State) : Host.Outcome State Fault Refusal :=
  loadProg 2 dst (eaPair p s) s

/-- `D3` LDC Irr,r (R138): refused where program memory is constant (R53). -/
def execLdc_Irr_r (p : Pair) (src : WReg) (s : State) : Host.Outcome State Fault Refusal :=
  storeProg 2 (eaPair p s) src s

/-- `E7` LDC r,XS[rr] (R137). -/
def execLdc_r_XS (dst : WReg) (xs : Byte) (p : Pair) (s : State) : Host.Outcome State Fault Refusal :=
  loadProg 3 dst (eaShort xs p s) s

/-- `F7` LDC XS[rr],r (R138): refused where program memory is constant (R53). -/
def execLdc_XS_r (xs : Byte) (p : Pair) (src : WReg) (s : State) : Host.Outcome State Fault Refusal :=
  storeProg 3 (eaShort xs p s) src s

/-- `A7` LDC r,XL[rr] (R137). -/
def execLdc_r_XL (dst : WReg) (xl : Word) (p : Pair) (s : State) : Host.Outcome State Fault Refusal :=
  loadProg 4 dst (eaLong xl p s) s

/-- `B7` LDC XL[rr],r (R138): refused where program memory is constant (R53). -/
def execLdc_XL_r (xl : Word) (p : Pair) (src : WReg) (s : State) : Host.Outcome State Fault Refusal :=
  storeProg 4 (eaLong xl p s) src s

/-- `A7` LDC r,DA (R137). -/
def execLdc_r_DA (dst : WReg) (da : Word) (s : State) : Host.Outcome State Fault Refusal :=
  loadProg 4 dst da s

/-- `B7` LDC DA,r (R138): refused where program memory is constant (R53). -/
def execLdc_DA_r (da : Word) (src : WReg) (s : State) : Host.Outcome State Fault Refusal :=
  storeProg 4 da src s

/-- `C3` LDE r,Irr (R139): refused where there is no data memory (R54). -/
def execLde_r_Irr (dst : WReg) (p : Pair) (s : State) : Host.Outcome State Fault Refusal :=
  loadData 2 dst (eaPair p s) s

/-- `D3` LDE Irr,r (R139): refused where there is no data memory (R54). -/
def execLde_Irr_r (p : Pair) (src : WReg) (s : State) : Host.Outcome State Fault Refusal :=
  storeData 2 (eaPair p s) src s

/-- `E7` LDE r,XS[rr] (R139): refused where there is no data memory (R54). -/
def execLde_r_XS (dst : WReg) (xs : Byte) (p : Pair) (s : State) : Host.Outcome State Fault Refusal :=
  loadData 3 dst (eaShort xs p s) s

/-- `F7` LDE XS[rr],r (R139): refused where there is no data memory (R54). -/
def execLde_XS_r (xs : Byte) (p : Pair) (src : WReg) (s : State) : Host.Outcome State Fault Refusal :=
  storeData 3 (eaShort xs p s) src s

/-- `A7` LDE r,XL[rr] (R139): refused where there is no data memory (R54). -/
def execLde_r_XL (dst : WReg) (xl : Word) (p : Pair) (s : State) : Host.Outcome State Fault Refusal :=
  loadData 4 dst (eaLong xl p s) s

/-- `B7` LDE XL[rr],r (R139): refused where there is no data memory (R54). -/
def execLde_XL_r (xl : Word) (p : Pair) (src : WReg) (s : State) : Host.Outcome State Fault Refusal :=
  storeData 4 (eaLong xl p s) src s

/-- `A7` LDE r,DA (R139): refused where there is no data memory (R54). -/
def execLde_r_DA (dst : WReg) (da : Word) (s : State) : Host.Outcome State Fault Refusal :=
  loadData 4 dst da s

/-- `B7` LDE DA,r (R139): refused where there is no data memory (R54). -/
def execLde_DA_r (da : Word) (src : WReg) (s : State) : Host.Outcome State Fault Refusal :=
  storeData 4 da src s

/-- `E2` LDCD r,Irr (R140). -/
def execLdcd_r_Irr (dst : WReg) (p : Pair) (s : State) : Host.Outcome State Fault Refusal :=
  withProgByte (eaPair p s) s (loadThenStep (-1) dst p s)

/-- `E2` LDED r,Irr (R141): refused where there is no data memory (R54). -/
def execLded_r_Irr (dst : WReg) (p : Pair) (s : State) : Host.Outcome State Fault Refusal :=
  withDataByte (eaPair p s) s (loadThenStep (-1) dst p s)

/-- `E3` LDCI r,Irr (R142). -/
def execLdci_r_Irr (dst : WReg) (p : Pair) (s : State) : Host.Outcome State Fault Refusal :=
  withProgByte (eaPair p s) s (loadThenStep 1 dst p s)

/-- `E3` LDEI r,Irr (R143): refused where there is no data memory (R54). -/
def execLdei_r_Irr (dst : WReg) (p : Pair) (s : State) : Host.Outcome State Fault Refusal :=
  withDataByte (eaPair p s) s (loadThenStep 1 dst p s)

/-- `50` POP R (R144). -/
def execPop_R (dst : Byte) (s : State) : Host.Outcome State Fault Refusal :=
  popOperand 2 (.reg dst) s

/-- `51` POP IR (R144). -/
def execPop_IR (dst : Byte) (s : State) : Host.Outcome State Fault Refusal :=
  popOperand 2 (.ireg dst) s

/-- `70` PUSH R (R145). -/
def execPush_R (src : Byte) (s : State) : Host.Outcome State Fault Refusal :=
  pushOperand 2 (.reg src) s

/-- `71` PUSH IR (R145). -/
def execPush_IR (src : Byte) (s : State) : Host.Outcome State Fault Refusal :=
  pushOperand 2 (.ireg src) s

end Sys2Proof.Machine
end

