-- ==== Sys2Proof/Machine/Logic.lean ====
section
/-! DEFINITION. The logic instructions (42_logic.md R180 to R183):
one meaning per encoding form, each over a shared operation of Operands.lean and Ops.lean. -/

namespace Sys2Proof.Machine

/-- `52` AND r,r (R180). -/
def execAnd_r_r (dst : WReg) (src : WReg) (s : State) : Host.Outcome State Fault Refusal :=
  twoStore aluAnd 2 (.r dst) (.place (.r src)) s

/-- `53` AND r,Ir (R180). -/
def execAnd_r_Ir (dst : WReg) (src : WReg) (s : State) : Host.Outcome State Fault Refusal :=
  twoStore aluAnd 2 (.r dst) (.place (.ir src)) s

/-- `54` AND R,R (R180). -/
def execAnd_R_R (dst : Byte) (src : Byte) (s : State) : Host.Outcome State Fault Refusal :=
  twoStore aluAnd 3 (.reg dst) (.place (.reg src)) s

/-- `55` AND R,IR (R180). -/
def execAnd_R_IR (dst : Byte) (src : Byte) (s : State) : Host.Outcome State Fault Refusal :=
  twoStore aluAnd 3 (.reg dst) (.place (.ireg src)) s

/-- `56` AND R,IM (R180). -/
def execAnd_R_IM (dst : Byte) (imm : Byte) (s : State) : Host.Outcome State Fault Refusal :=
  twoStore aluAnd 3 (.reg dst) (.imm imm) s

/-- `60` COM R (R181). -/
def execCom_R (dst : Byte) (s : State) : Host.Outcome State Fault Refusal :=
  oneStore aluCom 2 (.reg dst) s

/-- `61` COM IR (R181). -/
def execCom_IR (dst : Byte) (s : State) : Host.Outcome State Fault Refusal :=
  oneStore aluCom 2 (.ireg dst) s

/-- `42` OR r,r (R182). -/
def execOr_r_r (dst : WReg) (src : WReg) (s : State) : Host.Outcome State Fault Refusal :=
  twoStore aluOr 2 (.r dst) (.place (.r src)) s

/-- `43` OR r,Ir (R182). -/
def execOr_r_Ir (dst : WReg) (src : WReg) (s : State) : Host.Outcome State Fault Refusal :=
  twoStore aluOr 2 (.r dst) (.place (.ir src)) s

/-- `44` OR R,R (R182). -/
def execOr_R_R (dst : Byte) (src : Byte) (s : State) : Host.Outcome State Fault Refusal :=
  twoStore aluOr 3 (.reg dst) (.place (.reg src)) s

/-- `45` OR R,IR (R182). -/
def execOr_R_IR (dst : Byte) (src : Byte) (s : State) : Host.Outcome State Fault Refusal :=
  twoStore aluOr 3 (.reg dst) (.place (.ireg src)) s

/-- `46` OR R,IM (R182). -/
def execOr_R_IM (dst : Byte) (imm : Byte) (s : State) : Host.Outcome State Fault Refusal :=
  twoStore aluOr 3 (.reg dst) (.imm imm) s

/-- `B2` XOR r,r (R183). -/
def execXor_r_r (dst : WReg) (src : WReg) (s : State) : Host.Outcome State Fault Refusal :=
  twoStore aluXor 2 (.r dst) (.place (.r src)) s

/-- `B3` XOR r,Ir (R183). -/
def execXor_r_Ir (dst : WReg) (src : WReg) (s : State) : Host.Outcome State Fault Refusal :=
  twoStore aluXor 2 (.r dst) (.place (.ir src)) s

/-- `B4` XOR R,R (R183). -/
def execXor_R_R (dst : Byte) (src : Byte) (s : State) : Host.Outcome State Fault Refusal :=
  twoStore aluXor 3 (.reg dst) (.place (.reg src)) s

/-- `B5` XOR R,IR (R183). -/
def execXor_R_IR (dst : Byte) (src : Byte) (s : State) : Host.Outcome State Fault Refusal :=
  twoStore aluXor 3 (.reg dst) (.place (.ireg src)) s

/-- `B6` XOR R,IM (R183). -/
def execXor_R_IM (dst : Byte) (imm : Byte) (s : State) : Host.Outcome State Fault Refusal :=
  twoStore aluXor 3 (.reg dst) (.imm imm) s

end Sys2Proof.Machine
end

