-- ==== Sys2Proof/Machine/ProgramControl.lean ====
section
/-! DEFINITION. The program control instructions (43_program_control.md R190 to R195):
one meaning per encoding form, each over a shared operation of Operands.lean and Ops.lean. -/

namespace Sys2Proof.Machine

/-- `F4` CALL IRR (R190); the pair is read before the pushes (D31). -/
def execCall_IRR (a : Byte) (s : State) : Host.Outcome State Fault Refusal :=
  withTargetPair a s fun w t => callTo 2 w t

/-- `F6` CALL DA (R190). -/
def execCall_DA (da : Word) (s : State) : Host.Outcome State Fault Refusal :=
  callTo 3 da s

/-- `BF` IRET (R191): the inverse of the interrupt entry (R238). -/
def execIret (s : State) : Host.Outcome State Fault Refusal :=
  interruptReturn s

/-- `30` JP IRR (R192); unconditional; an odd pair address is refused (R58). -/
def execJp_IRR (a : Byte) (s : State) : Host.Outcome State Fault Refusal :=
  withTargetPair a s fun w t => .next (t.goto w)

/-- `ccD` JP cc,DA (R192). -/
def execJp_cc_DA (cc : Cond) (da : Word) (s : State) : Host.Outcome State Fault Refusal :=
  jumpIf 3 cc da s

/-- `ccB` JR cc,RA (R193). -/
def execJr_cc_RA (cc : Cond) (off : Byte) (s : State) : Host.Outcome State Fault Refusal :=
  jumpIf 2 cc (s.npc 2 + sext16 off) s

/-- `AF` RET (R194). -/
def execRet (s : State) : Host.Outcome State Fault Refusal :=
  .next ((popWord s).2.goto (popWord s).1)

end Sys2Proof.Machine
end

