-- ==== Sys2Proof/Machine/RotateShift.lean ====
section
/-! DEFINITION. The rotate and shift instructions (45_rotate_shift.md R210 to R214):
one meaning per encoding form, each over a shared operation of Operands.lean and Ops.lean. -/

namespace Sys2Proof.Machine

/-- `90` RL R (R210). -/
def execRl_R (dst : Byte) (s : State) : Host.Outcome State Fault Refusal :=
  oneStore aluRl 2 (.reg dst) s

/-- `91` RL IR (R210). -/
def execRl_IR (dst : Byte) (s : State) : Host.Outcome State Fault Refusal :=
  oneStore aluRl 2 (.ireg dst) s

/-- `10` RLC R (R211). -/
def execRlc_R (dst : Byte) (s : State) : Host.Outcome State Fault Refusal :=
  oneStore aluRlc 2 (.reg dst) s

/-- `11` RLC IR (R211). -/
def execRlc_IR (dst : Byte) (s : State) : Host.Outcome State Fault Refusal :=
  oneStore aluRlc 2 (.ireg dst) s

/-- `E0` RR R (R212). -/
def execRr_R (dst : Byte) (s : State) : Host.Outcome State Fault Refusal :=
  oneStore aluRr 2 (.reg dst) s

/-- `E1` RR IR (R212). -/
def execRr_IR (dst : Byte) (s : State) : Host.Outcome State Fault Refusal :=
  oneStore aluRr 2 (.ireg dst) s

/-- `C0` RRC R (R213). -/
def execRrc_R (dst : Byte) (s : State) : Host.Outcome State Fault Refusal :=
  oneStore aluRrc 2 (.reg dst) s

/-- `C1` RRC IR (R213). -/
def execRrc_IR (dst : Byte) (s : State) : Host.Outcome State Fault Refusal :=
  oneStore aluRrc 2 (.ireg dst) s

/-- `D0` SRA R (R214). -/
def execSra_R (dst : Byte) (s : State) : Host.Outcome State Fault Refusal :=
  oneStore aluSra 2 (.reg dst) s

/-- `D1` SRA IR (R214). -/
def execSra_IR (dst : Byte) (s : State) : Host.Outcome State Fault Refusal :=
  oneStore aluSra 2 (.ireg dst) s

end Sys2Proof.Machine
end

