-- ==== Sys2Proof/Machine/Dispatch.lean ====
section
/-! DEFINITION. One arm per constructor of `Instr`, each a direct call of its meaning. -/

namespace Sys2Proof.Machine

def exec (i : Instr) (s : State) : Host.Outcome State Fault Refusal :=
  match i with
  | .add_r_r dst src => Sys2Proof.Machine.execAdd_r_r dst src s
  | .add_r_Ir dst src => Sys2Proof.Machine.execAdd_r_Ir dst src s
  | .add_R_R dst src => Sys2Proof.Machine.execAdd_R_R dst src s
  | .add_R_IR dst src => Sys2Proof.Machine.execAdd_R_IR dst src s
  | .add_R_IM dst imm => Sys2Proof.Machine.execAdd_R_IM dst imm s
  | .adc_r_r dst src => Sys2Proof.Machine.execAdc_r_r dst src s
  | .adc_r_Ir dst src => Sys2Proof.Machine.execAdc_r_Ir dst src s
  | .adc_R_R dst src => Sys2Proof.Machine.execAdc_R_R dst src s
  | .adc_R_IR dst src => Sys2Proof.Machine.execAdc_R_IR dst src s
  | .adc_R_IM dst imm => Sys2Proof.Machine.execAdc_R_IM dst imm s
  | .sub_r_r dst src => Sys2Proof.Machine.execSub_r_r dst src s
  | .sub_r_Ir dst src => Sys2Proof.Machine.execSub_r_Ir dst src s
  | .sub_R_R dst src => Sys2Proof.Machine.execSub_R_R dst src s
  | .sub_R_IR dst src => Sys2Proof.Machine.execSub_R_IR dst src s
  | .sub_R_IM dst imm => Sys2Proof.Machine.execSub_R_IM dst imm s
  | .sbc_r_r dst src => Sys2Proof.Machine.execSbc_r_r dst src s
  | .sbc_r_Ir dst src => Sys2Proof.Machine.execSbc_r_Ir dst src s
  | .sbc_R_R dst src => Sys2Proof.Machine.execSbc_R_R dst src s
  | .sbc_R_IR dst src => Sys2Proof.Machine.execSbc_R_IR dst src s
  | .sbc_R_IM dst imm => Sys2Proof.Machine.execSbc_R_IM dst imm s
  | .or_r_r dst src => Sys2Proof.Machine.execOr_r_r dst src s
  | .or_r_Ir dst src => Sys2Proof.Machine.execOr_r_Ir dst src s
  | .or_R_R dst src => Sys2Proof.Machine.execOr_R_R dst src s
  | .or_R_IR dst src => Sys2Proof.Machine.execOr_R_IR dst src s
  | .or_R_IM dst imm => Sys2Proof.Machine.execOr_R_IM dst imm s
  | .and_r_r dst src => Sys2Proof.Machine.execAnd_r_r dst src s
  | .and_r_Ir dst src => Sys2Proof.Machine.execAnd_r_Ir dst src s
  | .and_R_R dst src => Sys2Proof.Machine.execAnd_R_R dst src s
  | .and_R_IR dst src => Sys2Proof.Machine.execAnd_R_IR dst src s
  | .and_R_IM dst imm => Sys2Proof.Machine.execAnd_R_IM dst imm s
  | .tcm_r_r dst src => Sys2Proof.Machine.execTcm_r_r dst src s
  | .tcm_r_Ir dst src => Sys2Proof.Machine.execTcm_r_Ir dst src s
  | .tcm_R_R dst src => Sys2Proof.Machine.execTcm_R_R dst src s
  | .tcm_R_IR dst src => Sys2Proof.Machine.execTcm_R_IR dst src s
  | .tcm_R_IM dst imm => Sys2Proof.Machine.execTcm_R_IM dst imm s
  | .tm_r_r dst src => Sys2Proof.Machine.execTm_r_r dst src s
  | .tm_r_Ir dst src => Sys2Proof.Machine.execTm_r_Ir dst src s
  | .tm_R_R dst src => Sys2Proof.Machine.execTm_R_R dst src s
  | .tm_R_IR dst src => Sys2Proof.Machine.execTm_R_IR dst src s
  | .tm_R_IM dst imm => Sys2Proof.Machine.execTm_R_IM dst imm s
  | .cp_r_r dst src => Sys2Proof.Machine.execCp_r_r dst src s
  | .cp_r_Ir dst src => Sys2Proof.Machine.execCp_r_Ir dst src s
  | .cp_R_R dst src => Sys2Proof.Machine.execCp_R_R dst src s
  | .cp_R_IR dst src => Sys2Proof.Machine.execCp_R_IR dst src s
  | .cp_R_IM dst imm => Sys2Proof.Machine.execCp_R_IM dst imm s
  | .xor_r_r dst src => Sys2Proof.Machine.execXor_r_r dst src s
  | .xor_r_Ir dst src => Sys2Proof.Machine.execXor_r_Ir dst src s
  | .xor_R_R dst src => Sys2Proof.Machine.execXor_R_R dst src s
  | .xor_R_IR dst src => Sys2Proof.Machine.execXor_R_IR dst src s
  | .xor_R_IM dst imm => Sys2Proof.Machine.execXor_R_IM dst imm s
  | .dec_R dst => Sys2Proof.Machine.execDec_R dst s
  | .dec_IR dst => Sys2Proof.Machine.execDec_IR dst s
  | .rlc_R dst => Sys2Proof.Machine.execRlc_R dst s
  | .rlc_IR dst => Sys2Proof.Machine.execRlc_IR dst s
  | .inc_R dst => Sys2Proof.Machine.execInc_R dst s
  | .inc_IR dst => Sys2Proof.Machine.execInc_IR dst s
  | .pop_R dst => Sys2Proof.Machine.execPop_R dst s
  | .pop_IR dst => Sys2Proof.Machine.execPop_IR dst s
  | .com_R dst => Sys2Proof.Machine.execCom_R dst s
  | .com_IR dst => Sys2Proof.Machine.execCom_IR dst s
  | .push_R src => Sys2Proof.Machine.execPush_R src s
  | .push_IR src => Sys2Proof.Machine.execPush_IR src s
  | .rl_R dst => Sys2Proof.Machine.execRl_R dst s
  | .rl_IR dst => Sys2Proof.Machine.execRl_IR dst s
  | .clr_R dst => Sys2Proof.Machine.execClr_R dst s
  | .clr_IR dst => Sys2Proof.Machine.execClr_IR dst s
  | .rrc_R dst => Sys2Proof.Machine.execRrc_R dst s
  | .rrc_IR dst => Sys2Proof.Machine.execRrc_IR dst s
  | .sra_R dst => Sys2Proof.Machine.execSra_R dst s
  | .sra_IR dst => Sys2Proof.Machine.execSra_IR dst s
  | .rr_R dst => Sys2Proof.Machine.execRr_R dst s
  | .rr_IR dst => Sys2Proof.Machine.execRr_IR dst s
  | .inc_r dst => Sys2Proof.Machine.execInc_r dst s
  | .jp_IRR a => Sys2Proof.Machine.execJp_IRR a s
  | .jp_cc_DA cc da => Sys2Proof.Machine.execJp_cc_DA cc da s
  | .jr_cc_RA cc off => Sys2Proof.Machine.execJr_cc_RA cc off s
  | .call_IRR a => Sys2Proof.Machine.execCall_IRR a s
  | .call_DA da => Sys2Proof.Machine.execCall_DA da s
  | .ld_r_IM dst imm => Sys2Proof.Machine.execLd_r_IM dst imm s
  | .ld_r_R dst src => Sys2Proof.Machine.execLd_r_R dst src s
  | .ld_R_r dst src => Sys2Proof.Machine.execLd_R_r dst src s
  | .ld_r_Ir dst src => Sys2Proof.Machine.execLd_r_Ir dst src s
  | .ld_Ir_r dst src => Sys2Proof.Machine.execLd_Ir_r dst src s
  | .ld_R_R dst src => Sys2Proof.Machine.execLd_R_R dst src s
  | .ld_R_IR dst src => Sys2Proof.Machine.execLd_R_IR dst src s
  | .ld_R_IM dst imm => Sys2Proof.Machine.execLd_R_IM dst imm s
  | .ld_IR_IM dst imm => Sys2Proof.Machine.execLd_IR_IM dst imm s
  | .ld_IR_R dst src => Sys2Proof.Machine.execLd_IR_R dst src s
  | .ld_r_X dst x idx => Sys2Proof.Machine.execLd_r_X dst x idx s
  | .ld_X_r x idx src => Sys2Proof.Machine.execLd_X_r x idx src s
  | .ldc_r_Irr dst p => Sys2Proof.Machine.execLdc_r_Irr dst p s
  | .ldc_Irr_r p src => Sys2Proof.Machine.execLdc_Irr_r p src s
  | .ldc_r_XS dst xs p => Sys2Proof.Machine.execLdc_r_XS dst xs p s
  | .ldc_XS_r xs p src => Sys2Proof.Machine.execLdc_XS_r xs p src s
  | .ldc_r_XL dst xl p => Sys2Proof.Machine.execLdc_r_XL dst xl p s
  | .ldc_XL_r xl p src => Sys2Proof.Machine.execLdc_XL_r xl p src s
  | .ldc_r_DA dst da => Sys2Proof.Machine.execLdc_r_DA dst da s
  | .ldc_DA_r da src => Sys2Proof.Machine.execLdc_DA_r da src s
  | .lde_r_Irr dst p => Sys2Proof.Machine.execLde_r_Irr dst p s
  | .lde_Irr_r p src => Sys2Proof.Machine.execLde_Irr_r p src s
  | .lde_r_XS dst xs p => Sys2Proof.Machine.execLde_r_XS dst xs p s
  | .lde_XS_r xs p src => Sys2Proof.Machine.execLde_XS_r xs p src s
  | .lde_r_XL dst xl p => Sys2Proof.Machine.execLde_r_XL dst xl p s
  | .lde_XL_r xl p src => Sys2Proof.Machine.execLde_XL_r xl p src s
  | .lde_r_DA dst da => Sys2Proof.Machine.execLde_r_DA dst da s
  | .lde_DA_r da src => Sys2Proof.Machine.execLde_DA_r da src s
  | .ldcd_r_Irr dst p => Sys2Proof.Machine.execLdcd_r_Irr dst p s
  | .lded_r_Irr dst p => Sys2Proof.Machine.execLded_r_Irr dst p s
  | .ldci_r_Irr dst p => Sys2Proof.Machine.execLdci_r_Irr dst p s
  | .ldei_r_Irr dst p => Sys2Proof.Machine.execLdei_r_Irr dst p s
  | .idle => Sys2Proof.Machine.execIdle s
  | .stop => Sys2Proof.Machine.execStop s
  | .di => Sys2Proof.Machine.execDi s
  | .ei => Sys2Proof.Machine.execEi s
  | .ret => Sys2Proof.Machine.execRet s
  | .iret => Sys2Proof.Machine.execIret s
  | .rcf => Sys2Proof.Machine.execRcf s
  | .scf => Sys2Proof.Machine.execScf s
  | .ccf => Sys2Proof.Machine.execCcf s
  | .nop => Sys2Proof.Machine.execNop s

end Sys2Proof.Machine
end

