-- ==== Sys2Proof/Machine/Peripherals.lean ====
section
/-! DEFINITION. What one oscillator period does (60_exceptions.md R275): the divider, the Basic
Timer with the watchdog (R276), Timer 0 (R283, R284), the PWM (R290, R292), the A/D converter
(R296) and the CLO signal (R273). -/

namespace Sys2Proof.Machine

/-- Whether the tap /n of the divider fires at this divider value (R275). -/
def tapFires (d : BitVec 12) (n : Nat) : Bool := d.toNat % n == 0

/-! ### Basic Timer and watchdog (R276) -/

/-- The Basic Timer's divider for BTCON.3-2; the code 11 is never stored (R28). -/
def btDivider (con : Byte) : Nat :=
  match field2 con 2 with
  | 0x0#2 => 4096
  | 0x1#2 => 1024
  | _ => 128

/-- Whether the watchdog is enabled: every BTCON.7-4 but 1010 (R28). -/
def watchdogEnabled (con : Byte) : Bool := con.extractLsb' 4 4 != 0xA

/-- `bt_tick` (R276), with the signal that BTCNT.4 has gone from 0 to 1 (R243 (d)). -/
def btTick (b : BasicTimer) : BasicTimer :=
  { b with
    cnt := b.cnt + 1
    request := b.request || (b.cnt == 0xFF && watchdogEnabled b.con)
    stable := b.stable || (!b.cnt.getLsbD 4 && (b.cnt + 1).getLsbD 4) }

/-! ### Timer 0 (R283) -/

/-- Timer 0's divider for T0CON.7-6. -/
def t0Divider (con : Byte) : Nat :=
  match field2 con 6 with
  | 0x0#2 => 4096
  | 0x1#2 => 256
  | 0x2#2 => 8
  | _ => 1

/-- Whether this tick is a match: the count equals T0DATA, or, under the other reading of
T0_PERIOD, the tick reaches T0DATA (R283 (b)). -/
def t0Match (c : Params) (t : Timer0) : Bool :=
  if c.t0PeriodPlusOne then t.cnt == t.data else t.cnt + 1 == t.data

/-- `t0_tick` (R283): a match clears the count, sets the pending bit and toggles the output. -/
def t0Tick (c : Params) (t : Timer0) : Timer0 :=
  if t0Match c t then { t with cnt := 0, con := setPending c t.con 1 0, out := !t.out }
  else { t with cnt := t.cnt + 1 }

/-! ### PWM (R290, R292) -/

/-- The PWM's divider for PWMCON.7-6. -/
def pwmDivider (con : Byte) : Nat :=
  match field2 con 6 with
  | 0x0#2 => 64
  | 0x1#2 => 8
  | 0x2#2 => 2
  | _ => 1

/-- Whether this count is a reload of the data buffer: the 8-bit overflow, or the 6-bit overflow
where PWMCON.4 is 1 (R292). -/
def pwmReloads (con cnt : Byte) : Bool :=
  if con.getLsbD 4 then cnt.extractLsb' 0 6 == 0 else cnt == 0

/-- `pwm_tick` (R290). -/
def pwmTick (c : Params) (p : Pwm) : Pwm :=
  { p with
    cnt := p.cnt + 1
    buf := if pwmReloads p.con (p.cnt + 1) then p.data else p.buf
    con := if p.cnt + 1 = 0 then setPending c p.con 1 0 else p.con }

/-! ### A/D converter (R296) -/

/-- The reading of the selected input: the environment's for a connected channel; for a code that
is internally grounded, 0 up to the converter's accuracy of 3 LSB (R44, R296; log 24). -/
def analogReading (s : State) : BitVec 10 :=
  let code := (s.adc.con.extractLsb' 4 4).toNat
  if h : code < 9 then
    if code < s.cfg.adcChannels then s.pins.analog[code]
    else (Config.freeByte s.draws &&& 0x03).zeroExtend 10
  else (Config.freeByte s.draws &&& 0x03).zeroExtend 10

/-- Whether the selected code is internally grounded (R44). -/
def adcGrounded (s : State) : Bool :=
  decide (9 ≤ (s.adc.con.extractLsb' 4 4).toNat) ||
    decide (s.cfg.adcChannels ≤ (s.adc.con.extractLsb' 4 4).toNat)

/-- The end of a conversion with result `r`: EOC is set, the result is split over ADDATAH and
ADDATAL (R45, R46, R296). -/
def adcFinish (r : BitVec 10) (c : Adc) : Adc :=
  { c with
    datah := r.extractLsb' 2 8
    datal := (r.extractLsb' 0 2).zeroExtend 8
    con := c.con ||| 0x08
    busy := false
    timer := 0 }

/-- `adc_step` (R296). -/
def adcStep (s : State) : State :=
  if s.adc.busy then
    if s.adc.timer ≤ 1 then
      { s with adc := adcFinish (analogReading s) s.adc,
               draws := if adcGrounded s then s.draws + 1 else s.draws }
    else { s with adc := { s.adc with timer := s.adc.timer - 1 } }
  else s

/-! ### CLO (R273) -/

/-- Whether P2.6 carries CLO: P2CONH.6-4 = 111 (R39). -/
def cloSelected (p : Ports) : Bool := p.p2conh.extractLsb' 4 3 == 0x7

/-- CLO while it is selected: the source does not say which clock it is, so its level is free at
every period (log 27). -/
def cloStep (s : State) : State :=
  if cloSelected s.ports then
    { s with clo := (Config.freeByte s.draws).getLsbD 0, draws := s.draws + 1 }
  else s

/-! ### One oscillator period -/

/-- The Basic Timer's part of a period. -/
def btStep (s : State) : State :=
  if tapFires s.div (btDivider s.bt.con) then { s with bt := btTick s.bt } else s

/-- Timer 0's part of a period. -/
def t0Step (s : State) : State :=
  if tapFires s.div (t0Divider s.t0.con) then { s with t0 := t0Tick s.cfg s.t0 } else s

/-- The PWM's part of a period: only while PWMCON.2 is 1. -/
def pwmStep (s : State) : State :=
  if s.pwm.con.getLsbD 2 && tapFires s.div (pwmDivider s.pwm.con) then
    { s with pwm := pwmTick s.cfg s.pwm }
  else s

/-- `tick()` (R275): one period of the oscillator, which does not run in STOP mode (R242). -/
def tick (s : State) : State :=
  match s.mode with
  | .stop => s
  | _ => cloStep (adcStep (pwmStep (t0Step (btStep { s with div := s.div + 1 }))))

/-- `n` oscillator periods. -/
def ticks : Nat → State → State
  | 0, s => s
  | n + 1, s => ticks n (tick s)

end Sys2Proof.Machine
end

