-- ==== Sys2Proof/Machine/Reset.lean ====
section
/-! DEFINITION. Reset (70_reset_and_hazards.md R320 to R324; 10_state.md R48): the four sources,
what every reset writes, and what depends on the source. Where the spec says `any`, the value is
free. -/

namespace Sys2Proof.Machine

/-- The four reset sources (R320). -/
inductive ResetSource where
  | powerOn | lvr | resetPin | watchdog
deriving DecidableEq, Repr

/-- Whether the external reset source of this chip is active now: VDD below the LVR level where the
LVR is on, else the RESET pin P1.2 low (R320, R324). -/
def resetActive (s : State) : Bool :=
  if s.cfg.lvrEnable then s.pins.vddLow else !s.pins.p1.getLsbD 2

/-- The external reset source, where it is active, is remembered until the reset: a pulse that
begins and ends inside one step resets at the next (R320; DESIGN CHOICE in when, log 54). -/
def noteReset (s : State) : State :=
  { s with pins := { s.pins with resetSeen := s.pins.resetSeen || resetActive s } }

/-- Whether the external reset source is active or has been active since the last reset. -/
def resetHeld (s : State) : Bool := s.pins.resetSeen || resetActive s

/-- The reset that is requested, if any: power-on, the external source (the LVR or the RESET pin,
whichever this chip has), and the watchdog's request (R320, R324; the order is log 49). -/
def resetRequest (powerOn : Bool) (s : State) : Option ResetSource :=
  if powerOn then some .powerOn
  else if resetHeld s then some (if s.cfg.lvrEnable then .lvr else .resetPin)
  else if s.bt.request then some .watchdog
  else none

/-- Whether a reset leaves the 208 general-purpose bytes undefined rather than kept (R323). -/
def ResetSource.losesRam : ResetSource → Bool
  | .powerOn => true
  | .lvr => true
  | .resetPin => false
  | .watchdog => false

/-- `n` register-file bytes from 00H up, each a free value; the first is draw `d`. -/
def freeRam (d : Nat) : Nat → Memory
  | 0 => []
  | n + 1 => cellWrite ramDefault (freeRam d n) n (Config.freeByte (d + n))

/-- How many free values a reset draws besides the general-purpose bytes: SP, FLAGS, ADDATAH,
ADDATAL and the T0 output. -/
def resetDraws : Nat := 5

/-- `do_reset()` (R322, R48): every control register and the hidden counters to their reset
values, SP, FLAGS.7-4, ADDATAH and ADDATAL.1-0 free, pc to 0100H, mode RESET_WAIT. Program and data
memory, the levels at the pins, the parameters, CLO and the SAR are as they were (log 35). -/
def doReset (src : ResetSource) (s : State) : State :=
  { s with
    ram := if src.losesRam then freeRam (s.draws + resetDraws) ramSize else s.ram
    pc := 0x0100
    flags := Config.freeByte s.draws &&& 0xF0
    sp := Config.freeByte (s.draws + 1)
    sym := 0x00
    mode := .resetWait
    clkcon := 0x00
    stopcon := 0x00
    mdsreg := 0x00
    ftstcon := 0x00
    div := 0
    t0 := { cnt := 0x00, data := 0xFF, con := 0x00,
            out := (Config.freeByte (s.draws + 4)).getLsbD 0 }
    bt := { con := 0x00, cnt := 0x00, request := false, stable := false }
    pwm := { data := 0x00, con := 0x00, cnt := 0x00, buf := 0x00 }
    adc := { con := 0x00, datah := Config.freeByte (s.draws + 2),
             datal := Config.freeByte (s.draws + 3) &&& 0x03,
             busy := false, timer := 0, sar := s.adc.sar }
    ports := { p0 := 0x00, p1 := 0x00, p2 := 0x00, p0conh := 0x00, p0conl := 0x00, p0pnd := 0x00,
               p1con := 0x00, p2conh := 0x00, p2conl := 0x00 }
    pins := { s.pins with resetSeen := false }
    draws := s.draws + resetDraws + (if src.losesRam then ramSize else 0) }

end Sys2Proof.Machine
end

