-- ==== Sys2Proof/Machine/Timing.lean ====
section
/-! DEFINITION. Cycle counts (70_reset_and_hazards.md R340) and the CPU clock (60_exceptions.md
R271), which decide how many oscillator periods an instruction lasts under TIME_MODEL = EXACT
(R272; log 19). -/

namespace Sys2Proof.Machine

/-- Oscillator periods per CPU cycle for CLKCON.4-3 (R26, R271). -/
def cpuDivider (clkcon : Byte) : Nat :=
  match field2 clkcon 3 with
  | 0x0#2 => 16
  | 0x1#2 => 8
  | 0x2#2 => 2
  | _ => 1

/-- The cycles of an instruction (R340). The five cells that the source leaves blank (ADC r,Ir,
ADC R,IR, TCM r,Ir, TCM R,IR, SRA IR) hold the values that R340 infers; RET and IRET, for which
the source prints two counts, are parameters. A conditional JP or JR has its one printed count, 8 or
6, whether the jump is taken or not: the source gives one number each and does not say of which
(91_not_in_source.md, 70_reset_and_hazards.md; DESIGN CHOICE, log 52). -/
def cycles (p : Params) : Instr → Nat
  | .add_r_r _ _ => 4
  | .add_r_Ir _ _ => 6
  | .add_R_R _ _ => 6
  | .add_R_IR _ _ => 6
  | .add_R_IM _ _ => 6
  | .adc_r_r _ _ => 4
  | .adc_r_Ir _ _ => 6
  | .adc_R_R _ _ => 6
  | .adc_R_IR _ _ => 6
  | .adc_R_IM _ _ => 6
  | .sub_r_r _ _ => 4
  | .sub_r_Ir _ _ => 6
  | .sub_R_R _ _ => 6
  | .sub_R_IR _ _ => 6
  | .sub_R_IM _ _ => 6
  | .sbc_r_r _ _ => 4
  | .sbc_r_Ir _ _ => 6
  | .sbc_R_R _ _ => 6
  | .sbc_R_IR _ _ => 6
  | .sbc_R_IM _ _ => 6
  | .or_r_r _ _ => 4
  | .or_r_Ir _ _ => 6
  | .or_R_R _ _ => 6
  | .or_R_IR _ _ => 6
  | .or_R_IM _ _ => 6
  | .and_r_r _ _ => 4
  | .and_r_Ir _ _ => 6
  | .and_R_R _ _ => 6
  | .and_R_IR _ _ => 6
  | .and_R_IM _ _ => 6
  | .tcm_r_r _ _ => 4
  | .tcm_r_Ir _ _ => 6
  | .tcm_R_R _ _ => 6
  | .tcm_R_IR _ _ => 6
  | .tcm_R_IM _ _ => 6
  | .tm_r_r _ _ => 4
  | .tm_r_Ir _ _ => 6
  | .tm_R_R _ _ => 6
  | .tm_R_IR _ _ => 6
  | .tm_R_IM _ _ => 6
  | .cp_r_r _ _ => 4
  | .cp_r_Ir _ _ => 6
  | .cp_R_R _ _ => 6
  | .cp_R_IR _ _ => 6
  | .cp_R_IM _ _ => 6
  | .xor_r_r _ _ => 4
  | .xor_r_Ir _ _ => 6
  | .xor_R_R _ _ => 6
  | .xor_R_IR _ _ => 6
  | .xor_R_IM _ _ => 6
  | .dec_R _ => 4
  | .dec_IR _ => 6
  | .rlc_R _ => 4
  | .rlc_IR _ => 4
  | .inc_R _ => 4
  | .inc_IR _ => 4
  | .pop_R _ => 8
  | .pop_IR _ => 8
  | .com_R _ => 4
  | .com_IR _ => 4
  | .push_R _ => 8
  | .push_IR _ => 8
  | .rl_R _ => 4
  | .rl_IR _ => 4
  | .clr_R _ => 4
  | .clr_IR _ => 4
  | .rrc_R _ => 4
  | .rrc_IR _ => 4
  | .sra_R _ => 4
  | .sra_IR _ => 4
  | .rr_R _ => 4
  | .rr_IR _ => 4
  | .inc_r _ => 4
  | .jp_IRR _ => 8
  | .jp_cc_DA _ _ => 8
  | .jr_cc_RA _ _ => 6
  | .call_IRR _ => 12
  | .call_DA _ => 14
  | .ld_r_IM _ _ => 4
  | .ld_r_R _ _ => 4
  | .ld_R_r _ _ => 4
  | .ld_r_Ir _ _ => 4
  | .ld_Ir_r _ _ => 4
  | .ld_R_R _ _ => 6
  | .ld_R_IR _ _ => 6
  | .ld_R_IM _ _ => 6
  | .ld_IR_IM _ _ => 6
  | .ld_IR_R _ _ => 6
  | .ld_r_X _ _ _ => 6
  | .ld_X_r _ _ _ => 6
  | .ldc_r_Irr _ _ => 10
  | .ldc_Irr_r _ _ => 10
  | .ldc_r_XS _ _ _ => 12
  | .ldc_XS_r _ _ _ => 12
  | .ldc_r_XL _ _ _ => 14
  | .ldc_XL_r _ _ _ => 14
  | .ldc_r_DA _ _ => 14
  | .ldc_DA_r _ _ => 14
  | .lde_r_Irr _ _ => 10
  | .lde_Irr_r _ _ => 10
  | .lde_r_XS _ _ _ => 12
  | .lde_XS_r _ _ _ => 12
  | .lde_r_XL _ _ _ => 14
  | .lde_XL_r _ _ _ => 14
  | .lde_r_DA _ _ => 14
  | .lde_DA_r _ _ => 14
  | .ldcd_r_Irr _ _ => 10
  | .lded_r_Irr _ _ => 10
  | .ldci_r_Irr _ _ => 10
  | .ldei_r_Irr _ _ => 10
  | .idle => 4
  | .stop => 4
  | .di => 4
  | .ei => 4
  | .ret => p.retCycles
  | .iret => p.iretCycles
  | .rcf => 4
  | .scf => 4
  | .ccf => 4
  | .nop => 4

end Sys2Proof.Machine
end

