-- ==== Sys2Proof/Machine/Environment.lean ====
section
/-! DEFINITION. The environment's part of a step (60_exceptions.md R230, R272): which input the
step takes, and `elapse`, which lets oscillator periods pass with pin changes between them. -/

namespace Sys2Proof.Machine

/-- What the environment does where `inputs` lists nothing more: no reset and no change at the
pins; one period passes in every step in which the oscillator runs, so that time does not stand
still (the fairness of R272; DESIGN CHOICE in the number, log 8). -/
def quietInput : Mode → StepInput
  | .run => { powerOn := false, events := [.ticks 1] }
  | .stop => { powerOn := false, events := [] }
  | .idle => { powerOn := false, events := [.ticks 1] }
  | .resetWait => { powerOn := false, events := [.ticks 1] }

/-- The input of the next step. -/
def State.nextInput (s : State) : StepInput :=
  match s.inputs with
  | [] => quietInput s.mode
  | i :: _ => i

/-- The state with that input taken. -/
def State.dropInput (s : State) : State := { s with inputs := s.inputs.tail }

/-- One event other than the passing of time; an external reset that it makes active is
remembered (R320). -/
def applyEvent (e : EnvEvent) (s : State) : State :=
  match e with
  | .ticks _ => s
  | .pins p0 p1 p2 => noteReset (changePins p0 p1 p2 s)
  | .analog ch v => { s with pins := { s.pins with analog := s.pins.analog.set ch v } }
  | .supply low => noteReset { s with pins := { s.pins with vddLow := low } }

/-- Time as `pass` lets it pass, unless the chip is held in reset by an external source: then it
stays in that state until the next step resets it (R322; log 54). -/
def passTime (pass : State → State) (s : State) : State := if resetHeld s then s else pass s

/-- The events of a step in order, `pass` letting the periods pass. -/
def elapseBy (pass : Nat → State → State) : List EnvEvent → State → State
  | [], s => s
  | .ticks n :: es, s => elapseBy pass es (passTime (pass n) s)
  | e :: es, s => elapseBy pass es (applyEvent e s)

/-- `elapse` with as many periods as the events say (TIME_MODEL = FREE). -/
def elapseFree (es : List EnvEvent) (s : State) : State := elapseBy ticks es s

/-- `elapse` with exactly `k` periods in all: the events' periods up to `k`, and the rest of the
`k` after the last event. -/
def elapseExact : Nat → List EnvEvent → State → State
  | k, [], s => passTime (ticks k) s
  | k, .ticks n :: es, s => elapseExact (k - n) es (passTime (ticks (min n k)) s)
  | k, e :: es, s => elapseExact k es (applyEvent e s)

/-- Whether the wait for the oscillator is over: BTCNT.4 has risen (R322, R243 (d)). Under EXACT the
wait ends at that very period, so that BTCNT is 10H after a reset (R326); under FREE the periods of
the step may run on, but not past the period that would clear BTCNT.4 again (log 21). -/
def waitOver (s : State) : Bool :=
  s.bt.stable &&
    match s.cfg.timeModel with
    | .free => !(tick s).bt.cnt.getLsbD 4
    | .exact => true

/-- At most `n` periods of the wait for the oscillator. -/
def waitTicks : Nat → State → State
  | 0, s => s
  | n + 1, s => if waitOver s then s else waitTicks n (tick s)

/-- `elapse` after an instruction or an interrupt entry of `cyc` cycles that ran with the CLKCON
value `clkcon` (R272). -/
def elapse (clkcon : Byte) (cyc : Nat) (es : List EnvEvent) (s : State) : State :=
  match s.cfg.timeModel with
  | .free => elapseFree es s
  | .exact => elapseExact (cyc * cpuDivider clkcon) es s

end Sys2Proof.Machine
end

