-- ==== Sys2Proof/Machine/Cycle.lean ====
section
/-! DEFINITION. The parts of the machine step (60_exceptions.md R230): fetching and running one
instruction (30_encoding.md R110, 20_memory.md R62), waking up (R242, R243), and the step in each
power state. -/

namespace Sys2Proof.Machine

/-! ### Fetch -/

/-- `n` bytes of program memory from `a` up, modulo 65536, given to what follows; a fault at the
first byte out of range (R62). -/
def withProgBytes : Nat → Word → State → (List Byte → Host.Outcome State Fault Refusal) →
    Host.Outcome State Fault Refusal
  | 0, _, _, k => k []
  | n + 1, a, s, k =>
    withProgByte a s fun b => withProgBytes n (a + 1) s fun bs => k (b :: bs)

/-- The decoded instruction at the pc, given to what follows (R110): the first byte fixes the
length or is undefined, then the remaining bytes are read. -/
def withInstr (s : State) (k : Instr → Host.Outcome State Fault Refusal) :
    Host.Outcome State Fault Refusal :=
  withProgByte s.pc s fun b1 =>
    match opLength b1 with
    | none => .fault (.undefinedOpcode b1)
    | some n =>
      withProgBytes n s.pc s fun bs =>
        match decode bs with
        | .instr i => k i
        | .undefinedOpcode b => .fault (.undefinedOpcode b)
        | .truncated => .fault (.undefinedOpcode b1)

/-! ### Wake-up (R243) -/

/-- Whether GIE allows a wake-up: always, or only when set, by WAKE_NEEDS_GIE (R243 (c)). -/
def wakeAllowed (s : State) : Bool := !s.cfg.wakeNeedsGie || s.gie

/-- `wake_idle()`. -/
def wakeIdle (s : State) : Bool := s.irq && wakeAllowed s

/-- `wake_stop()`: an external request, CLKCON.7 = 0. -/
def wakeStop (s : State) : Bool := !s.clkcon.getLsbD 7 && s.irqExt && wakeAllowed s

/-! ### The step in each power state (R230) -/

/-- One instruction, then the time it takes. -/
def runInstruction (es : List EnvEvent) (s : State) : Host.Outcome State Fault Refusal :=
  withInstr s fun i =>
    andThen (exec i s) fun t => .next (elapse s.clkcon (cycles s.cfg i) es t)

/-- One interrupt entry, then the time it takes. -/
def runEntry (es : List EnvEvent) (s : State) : Host.Outcome State Fault Refusal :=
  andThen (interruptEntry s) fun t => .next (elapse s.clkcon s.cfg.entryCycles es t)

/-- RUN: an interrupt is taken at the boundary if GIE and the request line are 1 (R236). -/
def stepRun (es : List EnvEvent) (s : State) : Host.Outcome State Fault Refusal :=
  if s.gie && s.irq then runEntry es s else runInstruction es s

/-- RESET_WAIT: time passes; RUN once BTCNT.4 has risen (R322, R243 (d)). How many periods a step
of the wait lasts is the environment's under both time models, since R272 gives EXACT a number only
after an instruction (DESIGN CHOICE, log 53). -/
def stepWait (es : List EnvEvent) (s : State) : State :=
  let t := elapseBy waitTicks es s
  if t.bt.stable then t.setMode .run else t

/-- IDLE: RUN on a wake-up, else time passes. A wake-up takes no time (R243 (f)). How many periods
a step of IDLE lasts is the environment's under both time models, since R272 gives EXACT a number
only after an instruction (DESIGN CHOICE, log 53). -/
def stepIdle (es : List EnvEvent) (s : State) : State :=
  if wakeIdle s then elapseExact 0 es (s.setMode .run) else elapseFree es s

/-- STOP: the pins may change; on a wake-up the oscillator restarts and the wait for BTCNT.4
begins, BTCNT as it is (R243 (b), (d)). -/
def stepStop (es : List EnvEvent) (s : State) : State :=
  let t := elapseExact 0 es s
  if wakeStop t then { t with mode := .resetWait, bt := { t.bt with stable := false } } else t

/-- A reset: no time passes, the pins may change (R230, R322). -/
def stepReset (src : ResetSource) (es : List EnvEvent) (s : State) : State :=
  elapseExact 0 es (doReset src s)

/-- The step with a given input (R230). -/
def stepWith (inp : StepInput) (s : State) : Host.Outcome State Fault Refusal :=
  match resetRequest inp.powerOn s with
  | some src => .next (stepReset src inp.events s)
  | none =>
    match s.mode with
    | .resetWait => .next (stepWait inp.events s)
    | .run => stepRun inp.events s
    | .idle => .next (stepIdle inp.events s)
    | .stop => .next (stepStop inp.events s)

/-! ### Placing an instruction -/

/-- Bytes placed in program memory from `a` up, modulo 65536. -/
def placeProg : Word → List Byte → State → State
  | _, [], s => s
  | a, b :: bs, s =>
    placeProg (a + 1) bs { s with prog := cellWrite progDefault s.prog a.toNat b }

/-- A state whose very next step runs the instruction at the pc: RUN mode, no reset requested, no
environment input left that asks for one, and no interrupt taken first (log 33). -/
def readyToRun (s : State) : State :=
  { s with
    mode := .run
    inputs := []
    bt := { s.bt with request := false }
    pins := { s.pins with vddLow := false, resetSeen := false, p1 := s.pins.p1 ||| 0x4 }
    sym := if s.irq then (s.setGie false).sym else s.sym }

end Sys2Proof.Machine
end

