-- ==== Sys2Proof/Machine/Step.lean ====
section
/-! DEFINITION. The machine step (60_exceptions.md R230): the next input of the environment is
taken, then one step in the power state the machine is in. -/

namespace Sys2Proof.Machine

/-- One step of the whole machine. -/
def step (s : State) : Host.Outcome State Fault Refusal :=
  Sys2Proof.Machine.stepWith s.nextInput s.dropInput

/-- `s` with an instruction of the opcode table stored at the pc, ready to run it next. -/
def State.withFetchWord (s : State) (nbits w : Nat) : State :=
  Sys2Proof.Machine.readyToRun (Sys2Proof.Machine.placeProg s.pc (tableBytes nbits w) s)

end Sys2Proof.Machine
end

