-- ==== Sys2Proof/Machine/Effects.lean ====
section
/-! DEFINITION. What each instruction may write, as the rules of the instruction files list it: the
bytes it stores to, the flags it writes (10_state.md R17), SP, GIE and the power state. -/

namespace Sys2Proof.Machine

/-- Which flags an instruction writes besides a store to FLAGS (R17). -/
inductive FlagEffect where
  | none
  /-- Z, S and V. -/
  | zsv
  /-- C, Z, S and V. -/
  | czsv
  /-- C only. -/
  | carry
deriving DecidableEq, Repr

/-- What an instruction may write. -/
structure Effects where
  /-- The register-file addresses stored to. -/
  file : List Byte := []
  /-- The program-memory addresses stored to. -/
  prog : List Word := []
  /-- The data-memory addresses stored to. -/
  data : List Word := []
  /-- The flags written. -/
  flags : FlagEffect := .none
  /-- Whether SP moves. -/
  sp : Bool := false
  /-- Whether GIE is written. -/
  gie : Bool := false
  /-- Whether the power state may change. -/
  mode : Bool := false
deriving DecidableEq, Repr

/-- The address of the second byte that a call pushes: below the SP that the first push leaves. -/
def secondPush (w : Word) (s : State) : Byte :=
  (storeReg (s.sp - 1) (loByte w) (s.setSp (s.sp - 1))).sp - 1

/-- What an instruction may write in a state. -/
def effects (i : Instr) (s : State) : Effects :=
  match i with
  | .add_r_r dst _ => { file := [wr dst], flags := .czsv }
  | .add_r_Ir dst _ => { file := [wr dst], flags := .czsv }
  | .add_R_R dst _ => { file := [dst], flags := .czsv }
  | .add_R_IR dst _ => { file := [dst], flags := .czsv }
  | .add_R_IM dst _ => { file := [dst], flags := .czsv }
  | .adc_r_r dst _ => { file := [wr dst], flags := .czsv }
  | .adc_r_Ir dst _ => { file := [wr dst], flags := .czsv }
  | .adc_R_R dst _ => { file := [dst], flags := .czsv }
  | .adc_R_IR dst _ => { file := [dst], flags := .czsv }
  | .adc_R_IM dst _ => { file := [dst], flags := .czsv }
  | .sub_r_r dst _ => { file := [wr dst], flags := .czsv }
  | .sub_r_Ir dst _ => { file := [wr dst], flags := .czsv }
  | .sub_R_R dst _ => { file := [dst], flags := .czsv }
  | .sub_R_IR dst _ => { file := [dst], flags := .czsv }
  | .sub_R_IM dst _ => { file := [dst], flags := .czsv }
  | .sbc_r_r dst _ => { file := [wr dst], flags := .czsv }
  | .sbc_r_Ir dst _ => { file := [wr dst], flags := .czsv }
  | .sbc_R_R dst _ => { file := [dst], flags := .czsv }
  | .sbc_R_IR dst _ => { file := [dst], flags := .czsv }
  | .sbc_R_IM dst _ => { file := [dst], flags := .czsv }
  | .or_r_r dst _ => { file := [wr dst], flags := .zsv }
  | .or_r_Ir dst _ => { file := [wr dst], flags := .zsv }
  | .or_R_R dst _ => { file := [dst], flags := .zsv }
  | .or_R_IR dst _ => { file := [dst], flags := .zsv }
  | .or_R_IM dst _ => { file := [dst], flags := .zsv }
  | .and_r_r dst _ => { file := [wr dst], flags := .zsv }
  | .and_r_Ir dst _ => { file := [wr dst], flags := .zsv }
  | .and_R_R dst _ => { file := [dst], flags := .zsv }
  | .and_R_IR dst _ => { file := [dst], flags := .zsv }
  | .and_R_IM dst _ => { file := [dst], flags := .zsv }
  | .tcm_r_r _ _ => { flags := .zsv }
  | .tcm_r_Ir _ _ => { flags := .zsv }
  | .tcm_R_R _ _ => { flags := .zsv }
  | .tcm_R_IR _ _ => { flags := .zsv }
  | .tcm_R_IM _ _ => { flags := .zsv }
  | .tm_r_r _ _ => { flags := .zsv }
  | .tm_r_Ir _ _ => { flags := .zsv }
  | .tm_R_R _ _ => { flags := .zsv }
  | .tm_R_IR _ _ => { flags := .zsv }
  | .tm_R_IM _ _ => { flags := .zsv }
  | .cp_r_r _ _ => { flags := .czsv }
  | .cp_r_Ir _ _ => { flags := .czsv }
  | .cp_R_R _ _ => { flags := .czsv }
  | .cp_R_IR _ _ => { flags := .czsv }
  | .cp_R_IM _ _ => { flags := .czsv }
  | .xor_r_r dst _ => { file := [wr dst], flags := .zsv }
  | .xor_r_Ir dst _ => { file := [wr dst], flags := .zsv }
  | .xor_R_R dst _ => { file := [dst], flags := .zsv }
  | .xor_R_IR dst _ => { file := [dst], flags := .zsv }
  | .xor_R_IM dst _ => { file := [dst], flags := .zsv }
  | .dec_R dst => { file := [dst], flags := .zsv }
  | .dec_IR dst => { file := [((Operand.ireg dst).address s).1], flags := .zsv }
  | .rlc_R dst => { file := [dst], flags := .czsv }
  | .rlc_IR dst => { file := [((Operand.ireg dst).address s).1], flags := .czsv }
  | .inc_R dst => { file := [dst], flags := .zsv }
  | .inc_IR dst => { file := [((Operand.ireg dst).address s).1], flags := .zsv }
  | .pop_R dst => { file := [dst], sp := true }
  | .pop_IR dst => { file := [((Operand.ireg dst).address s).1], sp := true }
  | .com_R dst => { file := [dst], flags := .zsv }
  | .com_IR dst => { file := [((Operand.ireg dst).address s).1], flags := .zsv }
  | .push_R _ => { file := [s.sp - 1], sp := true }
  | .push_IR _ => { file := [s.sp - 1], sp := true }
  | .rl_R dst => { file := [dst], flags := .czsv }
  | .rl_IR dst => { file := [((Operand.ireg dst).address s).1], flags := .czsv }
  | .clr_R dst => { file := [dst] }
  | .clr_IR dst => { file := [((Operand.ireg dst).address s).1] }
  | .rrc_R dst => { file := [dst], flags := .czsv }
  | .rrc_IR dst => { file := [((Operand.ireg dst).address s).1], flags := .czsv }
  | .sra_R dst => { file := [dst], flags := .czsv }
  | .sra_IR dst => { file := [((Operand.ireg dst).address s).1], flags := .czsv }
  | .rr_R dst => { file := [dst], flags := .czsv }
  | .rr_IR dst => { file := [((Operand.ireg dst).address s).1], flags := .czsv }
  | .inc_r dst => { file := [wr dst], flags := .zsv }
  | .jp_IRR _ => {}
  | .jp_cc_DA _ _ => {}
  | .jr_cc_RA _ _ => {}
  | .call_IRR _ => { file := [s.sp - 1, secondPush (s.npc 2) s], sp := true }
  | .call_DA _ => { file := [s.sp - 1, secondPush (s.npc 3) s], sp := true }
  | .ld_r_IM dst _ => { file := [wr dst] }
  | .ld_r_R dst _ => { file := [wr dst] }
  | .ld_R_r dst _ => { file := [dst] }
  | .ld_r_Ir dst _ => { file := [wr dst] }
  | .ld_Ir_r dst _ => { file := [((Operand.ir dst).address s).1] }
  | .ld_R_R dst _ => { file := [dst] }
  | .ld_R_IR dst _ => { file := [dst] }
  | .ld_R_IM dst _ => { file := [dst] }
  | .ld_IR_IM dst _ => { file := [((Operand.ireg dst).address s).1] }
  | .ld_IR_R dst _ => { file := [((Operand.ireg dst).address s).1] }
  | .ld_r_X dst _ _ => { file := [wr dst] }
  | .ld_X_r x idx _ => { file := [((Operand.x x idx).address s).1] }
  | .ldc_r_Irr dst _ => { file := [wr dst] }
  | .ldc_Irr_r p _ => { prog := [eaPair p s] }
  | .ldc_r_XS dst _ _ => { file := [wr dst] }
  | .ldc_XS_r xs p _ => { prog := [eaShort xs p s] }
  | .ldc_r_XL dst _ _ => { file := [wr dst] }
  | .ldc_XL_r xl p _ => { prog := [eaLong xl p s] }
  | .ldc_r_DA dst _ => { file := [wr dst] }
  | .ldc_DA_r da _ => { prog := [da] }
  | .lde_r_Irr dst _ => { file := [wr dst] }
  | .lde_Irr_r p _ => { data := [eaPair p s] }
  | .lde_r_XS dst _ _ => { file := [wr dst] }
  | .lde_XS_r xs p _ => { data := [eaShort xs p s] }
  | .lde_r_XL dst _ _ => { file := [wr dst] }
  | .lde_XL_r xl p _ => { data := [eaLong xl p s] }
  | .lde_r_DA dst _ => { file := [wr dst] }
  | .lde_DA_r da _ => { data := [da] }
  | .ldcd_r_Irr dst p => { file := [wr dst, wr (pairReg p), wr (pairReg p) + 1] }
  | .lded_r_Irr dst p => { file := [wr dst, wr (pairReg p), wr (pairReg p) + 1] }
  | .ldci_r_Irr dst p => { file := [wr dst, wr (pairReg p), wr (pairReg p) + 1] }
  | .ldei_r_Irr dst p => { file := [wr dst, wr (pairReg p), wr (pairReg p) + 1] }
  | .idle => { mode := true }
  | .stop => { mode := true }
  | .di => { gie := true }
  | .ei => { gie := true }
  | .ret => { sp := true }
  | .iret => { file := [flagsAddr], sp := true, gie := true }
  | .rcf => { flags := .carry }
  | .scf => { flags := .carry }
  | .ccf => { flags := .carry }
  | .nop => {}

end Sys2Proof.Machine
end

