-- ==== Sys2Proof/Safety.lean ====
section
/-! DEFINITION. The terms the claims use: what counts as a well-formed state, how an instruction
completes, and the arithmetic of the rules in whole numbers. `State.Inv` holds after reset and
every step keeps it. -/

namespace Sys2Proof.Machine

/-- The three memories are in canonical form. -/
abbrev State.memoriesWf (s : State) : Prop :=
  Memory.wf ramDefault ramSize s.ram ∧ Memory.wf progDefault addressSpace s.prog ∧
    Memory.wf dataDefault addressSpace s.data

/-- The bits of the CPU registers that do not exist are stored as 0 (R17, R26, R30, R31), and the
page-select bits of SYM are 00 (R30). -/
abbrev State.cpuRegistersWf (s : State) : Prop :=
  s.flags &&& 0x0F = 0 ∧ s.sym &&& 0xFB = 0 ∧ s.clkcon &&& 0x67 = 0 ∧ s.ftstcon = 0

/-- The bits of the device registers that do not exist are stored as 0 (R25, R28, R42, R44, R46),
BTCON.1-0 read 0 and BTCON.3-2 is not 11 (R28). -/
abbrev State.deviceRegistersWf (s : State) : Prop :=
  s.t0.con &&& 0x34 = 0 ∧ s.bt.con &&& 0x03 = 0 ∧ field2 s.bt.con 2 ≠ 3 ∧
    s.pwm.con &&& 0x20 = 0 ∧ s.adc.con &&& 0x01 = 0 ∧ s.adc.datal &&& 0xFC = 0

/-- The bits of the port registers that do not exist are stored as 0 (R33, R34, R37 to R39). -/
abbrev State.portRegistersWf (s : State) : Prop :=
  s.ports.p1 &&& 0xF8 = 0 ∧ s.ports.p2 &&& 0x80 = 0 ∧ s.ports.p0pnd &&& 0xF0 = 0 ∧
    s.ports.p1con &&& 0x30 = 0 ∧ s.ports.p2conh &&& 0x80 = 0

/-- A conversion in progress has periods left, at most 50 * 16, and EOC 0; an idle converter has
none left (R296). -/
abbrev State.adcWf (s : State) : Prop :=
  (s.adc.busy = true → 1 ≤ s.adc.timer ∧ s.adc.timer ≤ 800 ∧ s.adc.con.getLsbD 3 = false) ∧
    (s.adc.busy = false → s.adc.timer = 0)

/-- The machine waits for the oscillator only while the signal of R243 (d) has not come. -/
abbrev State.waitWf (s : State) : Prop := s.mode = .resetWait → s.bt.stable = false

/-- The edge detectors hold the levels of P0.0 and P0.1 (R303). -/
abbrev State.edgesWf (s : State) : Prop :=
  s.pins.intPrev0 = s.pins.p0.getLsbD 0 ∧ s.pins.intPrev1 = s.pins.p0.getLsbD 1

/-- The invariant of the machine. -/
abbrev State.Inv (s : State) : Prop :=
  s.memoriesWf ∧ s.cpuRegistersWf ∧ s.deviceRegistersWf ∧ s.portRegistersWf ∧ s.adcWf ∧
    s.waitWf ∧ s.edgesWf

/-! ### When the next step runs an instruction -/

/-- The next step is one in RUN mode, not taken by a reset or an interrupt (R230, R236). -/
abbrev State.runsNext (s : State) : Prop :=
  s.mode = .run ∧ resetRequest s.nextInput.powerOn s.dropInput = none ∧ (s.gie && s.irq) = false

/-- The `n` bytes of program memory from `a` up, modulo 65536 (R62). -/
def progBytes : Nat → Word → State → List Byte
  | 0, _, _ => []
  | n + 1, a, s => progByte a s :: progBytes n (a + 1) s

/-- The 58 undefined first bytes, as R107 lists them. -/
def undefinedOpcodes : List Byte :=
  [0x07, 0x17, 0x27, 0x37, 0x47, 0x57, 0x67, 0x77, 0x31, 0x40, 0x41, 0x80, 0x81, 0x82, 0x83, 0x84,
   0x85, 0x86, 0x92, 0x93, 0x94, 0x95, 0x96, 0xA0, 0xA1, 0xC2, 0xC4, 0xC5, 0xC6, 0xD2, 0xD4, 0xD5,
   0xF0, 0xF1, 0xF2, 0xF3, 0x0A, 0x1A, 0x2A, 0x3A, 0x4A, 0x5A, 0x6A, 0x7A, 0x8A, 0x9A, 0xAA, 0xBA,
   0xCA, 0xDA, 0xEA, 0xFA, 0x0F, 0x1F, 0x2F, 0x3F, 0x4F, 0x5F]

/-! ### How an instruction completes -/

/-- The one operand of R112: its address, its value, and the state after the reads. -/
def fetchOne (dst : Operand) (s : State) : Fetched :=
  let d := dst.address s
  { addr := d.1, dv := (readReg d.1 d.2).1, sv := 0, after := (readReg d.1 d.2).2 }

/-- `exec` answers a next state in which the result `out` is stored at the operand's address, the
flags are those of `out`, and the pc is `len` bytes on: for an address that a write reaches and
that is not FLAGS. -/
abbrev CompletesWithResult (i : Instr) (len : Nat) (s : State) (q : Fetched) (out : Alu) : Prop :=
  writeRefusal q.addr out.1 = none → q.addr ≠ 0xD5 →
    exec i s = .next (((storeReg q.addr out.1 q.after).setFlags out.2).advance len)

/-- `exec` answers a next state in which only the flags are those of `out` and the pc is `len`
bytes on. -/
abbrev CompletesWithFlags (i : Instr) (len : Nat) (s : State) (q : Fetched) (out : Alu) : Prop :=
  exec i s = .next ((q.after.setFlags out.2).advance len)

/-- The five forms of R111, each completing with the result that `rule` computes from the flags
before, the destination value and the source value. -/
abbrev TwoOperandResults (rr rIr : WReg → WReg → Instr) (RR RIR RIM : Byte → Byte → Instr)
    (rule : Czsv → Byte → Byte → Alu) (s : State) : Prop :=
  (∀ d r, let q := fetchTwo (.r d) (.place (.r r)) s
    CompletesWithResult (rr d r) 2 s q (rule s.czsv q.dv q.sv)) ∧
  (∀ d r, let q := fetchTwo (.r d) (.place (.ir r)) s
    CompletesWithResult (rIr d r) 2 s q (rule s.czsv q.dv q.sv)) ∧
  (∀ d r, let q := fetchTwo (.reg d) (.place (.reg r)) s
    CompletesWithResult (RR d r) 3 s q (rule s.czsv q.dv q.sv)) ∧
  (∀ d r, let q := fetchTwo (.reg d) (.place (.ireg r)) s
    CompletesWithResult (RIR d r) 3 s q (rule s.czsv q.dv q.sv)) ∧
  (∀ d v, let q := fetchTwo (.reg d) (.imm v) s
    CompletesWithResult (RIM d v) 3 s q (rule s.czsv q.dv q.sv))

/-- The five forms of R111 that only set flags. -/
abbrev TwoOperandFlags (rr rIr : WReg → WReg → Instr) (RR RIR RIM : Byte → Byte → Instr)
    (rule : Czsv → Byte → Byte → Alu) (s : State) : Prop :=
  (∀ d r, let q := fetchTwo (.r d) (.place (.r r)) s
    CompletesWithFlags (rr d r) 2 s q (rule s.czsv q.dv q.sv)) ∧
  (∀ d r, let q := fetchTwo (.r d) (.place (.ir r)) s
    CompletesWithFlags (rIr d r) 2 s q (rule s.czsv q.dv q.sv)) ∧
  (∀ d r, let q := fetchTwo (.reg d) (.place (.reg r)) s
    CompletesWithFlags (RR d r) 3 s q (rule s.czsv q.dv q.sv)) ∧
  (∀ d r, let q := fetchTwo (.reg d) (.place (.ireg r)) s
    CompletesWithFlags (RIR d r) 3 s q (rule s.czsv q.dv q.sv)) ∧
  (∀ d v, let q := fetchTwo (.reg d) (.imm v) s
    CompletesWithFlags (RIM d v) 3 s q (rule s.czsv q.dv q.sv))

/-- The two forms of R112 that store a result. -/
abbrev OneOperandResults (R IR : Byte → Instr) (rule : Czsv → Byte → Alu) (s : State) : Prop :=
  (∀ a, let q := fetchOne (.reg a) s
    CompletesWithResult (R a) 2 s q (rule s.czsv q.dv)) ∧
  (∀ a, let q := fetchOne (.ireg a) s
    CompletesWithResult (IR a) 2 s q (rule s.czsv q.dv))

/-- The encodings of R111: opcodes h2 to h6. -/
abbrev TwoOperandEncodings (h : BitVec 4) (rr rIr : WReg → WReg → Instr)
    (RR RIR RIM : Byte → Byte → Instr) : Prop :=
  (∀ d r, decode [nibbles h 2, nibbles d r] = .instr (rr d r)) ∧
  (∀ d r, decode [nibbles h 3, nibbles d r] = .instr (rIr d r)) ∧
  (∀ d r, decode [nibbles h 4, r, d] = .instr (RR d r)) ∧
  (∀ d r, decode [nibbles h 5, r, d] = .instr (RIR d r)) ∧
  (∀ d v, decode [nibbles h 6, d, v] = .instr (RIM d v))

/-- The encodings of R112: opcodes h0 and h1. -/
abbrev OneOperandEncodings (h : BitVec 4) (R IR : Byte → Instr) : Prop :=
  (∀ a, decode [nibbles h 0, a] = .instr (R a)) ∧ ∀ a, decode [nibbles h 1, a] = .instr (IR a)

/-- A move completes: the byte `v` is stored at `a`, no flag is written, and the pc is `len` bytes
on. -/
abbrev CompletesWithMove (i : Instr) (len : Nat) (s : State) (a v : Byte) (u : State) : Prop :=
  writeRefusal a v = none → exec i s = .next ((storeReg a v u).advance len)

/-- An instruction that stores the result `v` at `a`: it is refused where a write there is, and
where `a` is FLAGS the flags are free afterwards (R160 (d)). -/
abbrev StopsOrFreesFlags (i : Instr) (len : Nat) (s : State) (q : Fetched) (v : Byte) : Prop :=
  (∀ r, writeRefusal q.addr v = some r → exec i s = .refused r) ∧
    (q.addr = 0xD5 → exec i s = .next ((storeReg 0xD5 v q.after).freeFlags.advance len))

/-- A one-operand or two-operand instruction that stores: every form, in the terms of
`StopsOrFreesFlags`. -/
abbrev TwoOperandStops (rr rIr : WReg → WReg → Instr) (RR RIR RIM : Byte → Byte → Instr)
    (rule : Czsv → Byte → Byte → Alu) (s : State) : Prop :=
  (∀ d r, let q := fetchTwo (.r d) (.place (.r r)) s
    StopsOrFreesFlags (rr d r) 2 s q (rule s.czsv q.dv q.sv).1) ∧
  (∀ d r, let q := fetchTwo (.r d) (.place (.ir r)) s
    StopsOrFreesFlags (rIr d r) 2 s q (rule s.czsv q.dv q.sv).1) ∧
  (∀ d r, let q := fetchTwo (.reg d) (.place (.reg r)) s
    StopsOrFreesFlags (RR d r) 3 s q (rule s.czsv q.dv q.sv).1) ∧
  (∀ d r, let q := fetchTwo (.reg d) (.place (.ireg r)) s
    StopsOrFreesFlags (RIR d r) 3 s q (rule s.czsv q.dv q.sv).1) ∧
  (∀ d v, let q := fetchTwo (.reg d) (.imm v) s
    StopsOrFreesFlags (RIM d v) 3 s q (rule s.czsv q.dv q.sv).1)

/-- The two forms of a one-operand instruction, in the terms of `StopsOrFreesFlags`. -/
abbrev OneOperandStops (R IR : Byte → Instr) (rule : Czsv → Byte → Alu) (s : State) : Prop :=
  (∀ a, let q := fetchOne (.reg a) s
    StopsOrFreesFlags (R a) 2 s q (rule s.czsv q.dv).1) ∧
  (∀ a, let q := fetchOne (.ireg a) s
    StopsOrFreesFlags (IR a) 2 s q (rule s.czsv q.dv).1)

/-! ### The rules' arithmetic in whole numbers -/

/-- Addition with a carry in of 0 or 1 (R161, R162). -/
def sumRule (carry : Nat) (dv sv : Byte) : Alu :=
  let t := dv.toNat + sv.toNat + carry
  let res := BitVec.ofNat 8 t
  (res, { c := decide (256 ≤ t), z := decide (res = 0), s := res.getLsbD 7,
          v := decide (dv.getLsbD 7 = sv.getLsbD 7 ∧ res.getLsbD 7 ≠ dv.getLsbD 7) })

/-- Subtraction with a borrow in of 0 or 1 (R163, R166, R167). -/
def diffRule (borrow : Nat) (dv sv : Byte) : Alu :=
  let res := BitVec.ofInt 8 ((dv.toNat : Int) - sv.toNat - borrow)
  (res, { c := decide (dv.toNat < sv.toNat + borrow), z := decide (res = 0), s := res.getLsbD 7,
          v := decide (dv.getLsbD 7 ≠ sv.getLsbD 7 ∧ res.getLsbD 7 = sv.getLsbD 7) })

/-- A logic result: Z and S from the result, V cleared, C as before (R180 to R183). -/
def logicRule (f : Czsv) (res : Byte) : Alu :=
  (res, { c := f.c, z := decide (res = 0), s := res.getLsbD 7, v := false })

/-- A rotate of `dv` to `res` with the bit `out` shifted out (R210 to R213). -/
def rotateRule (dv res : Byte) (out : Bool) : Alu :=
  (res, { c := out, z := decide (res = 0), s := res.getLsbD 7,
          v := decide (res.getLsbD 7 ≠ dv.getLsbD 7) })

end Sys2Proof.Machine
end

