-- ==== Sys2Proof/Certificates/Slice0/Obligations.lean ====
section
/-! DEFINITION. The statements for the provers, from the numbered rules of spec/ file by file. -/

open Sys2Proof Sys2Proof.Machine

/-! ### Encoding (30_encoding.md) -/

/-- Decoding an encoded well-formed instruction gives it back, whatever bytes follow: no operand
bit of any form is dropped (R100 to R103, R110). -/
def Obligations.DecodeOfEncode : Prop :=
  ∀ (i : Instr) (tail : List Byte), i.wellFormed = true → decode (encode i ++ tail) = .instr i

/-- Whatever decodes is well formed, and its encoding is the bytes it was decoded from: no two byte
sequences of an instruction's length mean the same instruction (R100 to R103, R110). -/
def Obligations.EncodeOfDecode : Prop :=
  ∀ (bs : List Byte) (i : Instr), decode bs = .instr i →
    i.wellFormed = true ∧ bs.take i.length = encode i

/-- The first byte fixes the length by its low nibble (R104), with F4 (CALL IRR) 2 bytes as R101,
R190 and R340 have it, where R104's row for low nibble 4 says 3 (log 44). -/
def Obligations.LengthFromFirstByte : Prop :=
  ∀ (b : Byte) (tail : List Byte) (i : Instr), decode (b :: tail) = .instr i →
    (b.toNat % 16 ≤ 3 → i.length = 2) ∧
    (b.toNat % 16 = 4 ∨ b.toNat % 16 = 5 ∨ b.toNat % 16 = 6 →
      i.length = if b = 0xF4 then 2 else 3) ∧
    (b = 0x87 ∨ b = 0x97 ∨ b = 0xE7 ∨ b = 0xF7 → i.length = 3) ∧
    (b = 0xA7 ∨ b = 0xB7 → i.length = 4) ∧
    (b = 0xC7 ∨ b = 0xD7 → i.length = 2) ∧
    (b.toNat % 16 = 8 ∨ b.toNat % 16 = 9 ∨ b.toNat % 16 = 11 ∨ b.toNat % 16 = 12 →
      i.length = 2) ∧
    (b.toNat % 16 = 13 → i.length = 3) ∧
    (b.toNat % 16 = 14 ∨ b.toNat % 16 = 15 → i.length = 1)

/-- The 58 first bytes of R107's list, and no others, decode to nothing whatever follows, and
fetching one is the fault of R107 (92_eei_decisions.md D5: a decision of the spec, log 13). -/
def Obligations.UndefinedOpcodeStops : Prop :=
  undefinedOpcodes.length = 58 ∧ undefinedOpcodes.Nodup ∧
  (∀ (b : Byte) (tail : List Byte),
    decode (b :: tail) = .undefinedOpcode b ↔ b ∈ undefinedOpcodes) ∧
  ∀ s : State, s.runsNext → s.pc.toNat < s.cfg.romSize →
    progByte s.pc s ∈ undefinedOpcodes → step s = .fault (.undefinedOpcode (progByte s.pc s))

/-- Words written out from the encodings of the spec's worked examples decode to the instructions
they stand for: at least one of each family (a sanity statement). The order of the two address
bytes in `JP C,1000H` and `CALL 1521H` is the spec's own, from general knowledge, and in no listing
of the manual (D3, G1; log 16). -/
def Obligations.DecodeReadsSpecWords : Prop :=
  decode [0x02, 0x12] = .instr (.add_r_r 1 2) ∧
  decode [0x15, 0x02, 0x01] = .instr (.adc_R_IR 0x01 0x02) ∧
  decode [0x36, 0x01, 0x8A] = .instr (.sbc_R_IM 0x01 0x8A) ∧
  decode [0x1E] = .instr (.inc_r 1) ∧
  decode [0xB4, 0x01, 0x00] = .instr (.xor_R_R 0x00 0x01) ∧
  decode [0x63, 0x01] = .instr (.tcm_r_Ir 0 1) ∧
  decode [0xD1, 0x02] = .instr (.sra_IR 0x02) ∧
  decode [0x97, 0x10, 0x30] = .instr (.ld_X_r 0x30 0 1) ∧
  decode [0xA7, 0x02, 0x00, 0x10] = .instr (.ldc_r_XL 0 0x1000 1) ∧
  decode [0xB7, 0x01, 0x05, 0x11] = .instr (.lde_DA_r 0x1105 0) ∧
  decode [0xE3, 0x86] = .instr (.ldci_r_Irr 8 3) ∧
  decode [0x7D, 0x10, 0x00] = .instr (.jp_cc_DA .c 0x1000) ∧
  decode [0x7B, 0x05] = .instr (.jr_cc_RA .c 0x05) ∧
  decode [0xF6, 0x15, 0x21] = .instr (.call_DA 0x1521) ∧
  decode [0x7F] = .instr .stop

/-- The sixteen condition codes of JP and JR and when each holds of C, Z, S, V; codes `cc` and
`cc ^ 1000B` are complements. The operator signs are the spec's, from general knowledge (R105;
log 18). -/
def Obligations.ConditionCodes : Prop :=
  ∀ f : Czsv,
    (f.holds (.ofCode 0x0) = false) ∧ (f.holds (.ofCode 0x8) = true) ∧
    (f.holds (.ofCode 0x7) ↔ f.c = true) ∧ (f.holds (.ofCode 0xF) ↔ f.c = false) ∧
    (f.holds (.ofCode 0x6) ↔ f.z = true) ∧ (f.holds (.ofCode 0xE) ↔ f.z = false) ∧
    (f.holds (.ofCode 0xD) ↔ f.s = false) ∧ (f.holds (.ofCode 0x5) ↔ f.s = true) ∧
    (f.holds (.ofCode 0x4) ↔ f.v = true) ∧ (f.holds (.ofCode 0xC) ↔ f.v = false) ∧
    (f.holds (.ofCode 0x9) ↔ f.s = f.v) ∧ (f.holds (.ofCode 0x1) ↔ f.s ≠ f.v) ∧
    (f.holds (.ofCode 0xA) ↔ f.z = false ∧ f.s = f.v) ∧
    (f.holds (.ofCode 0x2) ↔ f.z = true ∨ f.s ≠ f.v) ∧
    (f.holds (.ofCode 0xB) ↔ f.c = false ∧ f.z = false) ∧
    (f.holds (.ofCode 0x3) ↔ f.c = true ∨ f.z = true) ∧
    ∀ cc : BitVec 4, f.holds (.ofCode (cc ^^^ 0x8)) = !f.holds (.ofCode cc)

/-- Where an operand of each form stands and what the two-operand fetch reads: the source first,
then the destination, and nothing but free values drawn (R68, R102, R111, R112). The sum of
the indexed form modulo 256 is a decision of the spec (D13, log 45); that pointers are read first is
its decision D31, and that the source is read before the destination is the model's choice, which
shows only in which free value each draws (log 30). -/
def Obligations.OperandForms : Prop :=
  ∀ s : State,
    (∀ n, ((Operand.r n).address s).1 = BitVec.ofNat 8 (0xC0 + n.toNat)) ∧
    (∀ n, ((Operand.ir n).address s).1 = peek (BitVec.ofNat 8 (0xC0 + n.toNat)) s) ∧
    (∀ a, ((Operand.reg a).address s).1 = a) ∧
    (∀ a, ((Operand.ireg a).address s).1 = peek a s) ∧
    (∀ b n, ((Operand.x b n).address s).1 = b + peek (BitVec.ofNat 8 (0xC0 + n.toNat)) s) ∧
    (∀ v, ((Source.imm v).value s) = (v, s)) ∧
    ∀ d r, let q := fetchTwo d r s
      let u := (d.address s).2
      q.addr = (d.address s).1 ∧ q.sv = (r.value u).1 ∧
        q.dv = peek q.addr (r.value u).2 ∧
        (∀ o, r = .place o → q.sv = peek (o.address u).1 (o.address u).2) ∧
        ∃ k, q.after = { s with draws := s.draws + k }

/-! ### The machine step (60_exceptions.md R230, 20_memory.md R52, R62) -/

/-- A STEP RUNS THE DECODED INSTRUCTION: in RUN mode with no reset and no interrupt to take, when
the bytes at the pc decode to `i` and lie inside the ROM, the step is `exec i`, on the state with
the environment's next input taken, followed by the time it lasts. -/
def Obligations.StepRunsDecodedInstruction : Prop :=
  ∀ (s : State) (i : Instr), s.runsNext →
    (∀ k < i.length, (s.pc + BitVec.ofNat 16 k).toNat < s.cfg.romSize) →
    decode (progBytes i.length s.pc s) = .instr i →
    step s = andThen (exec i s.dropInput) fun t =>
      .next (elapse s.clkcon (cycles s.cfg i) s.nextInput.events t)

/-- An interrupt is taken at the boundary, before the next instruction, whenever GIE and the
request line are 1 (R230, R236): the step is the entry, on the state with the environment's next
input taken, followed by the time it lasts. That every boundary is such a point is a decision of
the spec (92_eei_decisions.md D14, log 42). -/
def Obligations.StepTakesInterruptFirst : Prop :=
  ∀ s : State, s.mode = .run → resetRequest s.nextInput.powerOn s.dropInput = none →
    s.gie = true → s.irq = true →
    step s = andThen (interruptEntry s.dropInput) fun t =>
      .next (elapse s.clkcon s.cfg.entryCycles s.nextInput.events t)

/-- A fetch at or above ROM_SIZE stops with the fault of R52, at the first byte out of range, also
for an instruction that straddles the end (R62; 92_eei_decisions.md D2: a decision of the spec,
log 13). -/
def Obligations.FetchOutOfRangeStops : Prop :=
  ∀ s : State, s.runsNext →
    (s.cfg.romSize ≤ s.pc.toNat → step s = .fault (.programAddressOutOfRange s.pc)) ∧
    ∀ n k : Nat, opLength (progByte s.pc s) = some n → k < n →
      (∀ j < k, (s.pc + BitVec.ofNat 16 j).toNat < s.cfg.romSize) →
      s.cfg.romSize ≤ (s.pc + BitVec.ofNat 16 k).toNat →
      step s = .fault (.programAddressOutOfRange (s.pc + BitVec.ofNat 16 k))

/-- The state after reset satisfies the invariant. -/
def Obligations.InvAtReset : Prop := State.reset.Inv

/-- Every step keeps the invariant: canonical memories, absent register bits 0, page 0 selected,
no illegal Basic Timer clock, a conversion's count in range, the wait after reset only while the
oscillator is not stable, the edge detectors at the pins' levels. -/
def Obligations.InvKept : Prop :=
  ∀ s t : State, s.Inv → step s = .next t → t.Inv

/-- Where program memory is constant, as on every part in scope, no step changes it: the program
cannot modify itself. No step changes a parameter (R53, R66; log 15). -/
def Obligations.ProgramMemoryConstant : Prop :=
  ∀ s t : State, step s = .next t →
    t.cfg = s.cfg ∧ (s.cfg.progWritable = false → t.prog = s.prog)

/-! ### The register file (10_state.md, 20_memory.md) -/

/-- What a read returns at every address of the register file (R19 to R46): the stored byte in the
bits the register has; in an unused bit, at a reserved address and from FTSTCON the next free value
(R22, a decision of the spec, D9; log 10), and so ADCON.0 (D34; log 24); and a read changes nothing
but how many free values have been drawn (R60). What the used bits of the port data registers
P0, P1 and P2 read as, pin by pin, is PortReads. -/
def Obligations.RegisterReads : Prop :=
  (∀ (a : Byte) (s : State), (readReg a s).1 = peek a s ∧
    ∃ k, k ≤ 1 ∧ (readReg a s).2 = { s with draws := s.draws + k }) ∧
  ∀ s : State, let free := Config.freeByte s.draws
    (∀ a : Byte, a.toNat < 0xD0 → peek a s = cellRead ramDefault s.ram a.toNat) ∧
    peek 0xD0 s = s.t0.cnt ∧ peek 0xD1 s = s.t0.data ∧
    peek 0xD2 s &&& 0xCB = s.t0.con &&& 0xCB ∧ peek 0xD2 s &&& 0x34 = free &&& 0x34 ∧
    peek 0xD4 s &&& 0x98 = s.clkcon &&& 0x98 ∧ peek 0xD4 s &&& 0x67 = free &&& 0x67 ∧
    peek 0xD5 s &&& 0xF0 = s.flags &&& 0xF0 ∧ peek 0xD5 s &&& 0x0F = free &&& 0x0F ∧
    peek 0xD9 s = s.sp ∧ peek 0xDB s = s.mdsreg ∧ peek 0xDC s = s.bt.con ∧
    peek 0xDD s = s.bt.cnt ∧ peek 0xDE s = free ∧
    peek 0xDF s &&& 0x07 = s.sym &&& 0x07 ∧ peek 0xDF s &&& 0xF8 = free &&& 0xF8 ∧
    peek 0xE1 s &&& 0xF8 = free &&& 0xF8 ∧ peek 0xE2 s &&& 0x80 = free &&& 0x80 ∧
    peek 0xE6 s = s.ports.p0conh ∧ peek 0xE7 s = s.ports.p0conl ∧
    peek 0xE8 s &&& 0x0F = s.ports.p0pnd &&& 0x0F ∧ peek 0xE8 s &&& 0xF0 = free &&& 0xF0 ∧
    peek 0xE9 s &&& 0xCF = s.ports.p1con &&& 0xCF ∧ peek 0xE9 s &&& 0x30 = free &&& 0x30 ∧
    peek 0xEA s &&& 0x7F = s.ports.p2conh &&& 0x7F ∧ peek 0xEA s &&& 0x80 = free &&& 0x80 ∧
    peek 0xEB s = s.ports.p2conl ∧ peek 0xF2 s = s.pwm.data ∧
    peek 0xF3 s &&& 0xDF = s.pwm.con &&& 0xDF ∧ peek 0xF3 s &&& 0x20 = free &&& 0x20 ∧
    peek 0xF4 s = s.stopcon ∧
    peek 0xF7 s &&& 0xFE = s.adc.con &&& 0xFE ∧ peek 0xF7 s &&& 0x01 = free &&& 0x01 ∧
    peek 0xF8 s = s.adc.datah ∧ peek 0xF9 s = s.adc.datal ∧
    ∀ a ∈ ([0xD3, 0xD6, 0xD7, 0xD8, 0xDA, 0xE3, 0xE4, 0xE5, 0xEC, 0xED, 0xEE, 0xEF, 0xF0, 0xF1,
      0xF5, 0xF6, 0xFA, 0xFB, 0xFC, 0xFD, 0xFE, 0xFF] : List Byte), peek a s = free

/-- Plain storage (R20, R60): 00H to CFH, T0DATA, SP, MDSREG and PWMDATA accept every byte, read it
back, every other address of the register file reads as before, and nothing else of the machine
changes. That MDSREG is such a byte is the spec's own choice (R27, log 40). -/
def Obligations.PlainRegistersReadBack : Prop :=
  ∀ (s : State) (a v : Byte), Memory.wf ramDefault ramSize s.ram →
    a.toNat < 0xD0 ∨ a = 0xD1 ∨ a = 0xD9 ∨ a = 0xDB ∨ a = 0xF2 →
    ∃ t, writeReg a v s = .next t ∧ peek a t = v ∧ (∀ b, b ≠ a → peek b t = peek b s) ∧
      t = { s with
        ram := t.ram, sp := t.sp, mdsreg := t.mdsreg
        t0 := { s.t0 with data := t.t0.data }, pwm := { s.pwm with data := t.pwm.data } }

/-- The writes with side effects (R25, R28, R30, R37, R42, R60; 60_exceptions.md R276, R283, R290,
R296): pending bits become `old & written`, T0CON.3, BTCON.1 and PWMCON.3 clear their counters,
BTCON.0 clears the divider, ADCON.0 starts a conversion, 00H to FTSTCON has no effect (R31); each is
given as the whole state after. Every control register that accepts a write is here;
RefusedRegisterWrites has the others. Decisions of the spec: that T0CON.3 and PWMCON.3 clear the
count at the write and read back (D24, log 47), that ADCON.3 is not written and a start clears it
(D34, log 24), that unused bits ignore the write (D9, log 10), MDSREG (log 40). -/
def Obligations.ControlRegisterWrites : Prop :=
  ∀ (s : State) (v : Byte),
    (∃ c, writeReg 0xD2 v s = .next { s with t0 := { s.t0 with
        con := c, cnt := if v.getLsbD 3 then 0 else s.t0.cnt } } ∧
      c &&& 0xCA = v &&& 0xCA ∧ c.getLsbD 0 = (s.t0.con.getLsbD 0 && v.getLsbD 0)) ∧
    (v.extractLsb' 2 2 ≠ 3 →
      writeReg 0xDC v s = .next { s with
        bt := { s.bt with con := v &&& 0xFC, cnt := if v.getLsbD 1 then 0 else s.bt.cnt }
        div := if v.getLsbD 0 then 0 else s.div }) ∧
    (∃ c, writeReg 0xF3 v s = .next { s with pwm := { s.pwm with
        con := c, cnt := if v.getLsbD 3 then 0 else s.pwm.cnt } } ∧
      c &&& 0xDE = v &&& 0xDE ∧ c.getLsbD 0 = (s.pwm.con.getLsbD 0 && v.getLsbD 0)) ∧
    (∃ c, writeReg 0xE8 v s = .next { s with ports := { s.ports with p0pnd := c } } ∧
      c &&& 0x0A = v &&& 0x0A ∧ c.getLsbD 0 = (s.ports.p0pnd.getLsbD 0 && v.getLsbD 0) ∧
      c.getLsbD 2 = (s.ports.p0pnd.getLsbD 2 && v.getLsbD 2)) ∧
    (v.getLsbD 0 = false → ∃ c, writeReg 0xF7 v s = .next { s with adc := { s.adc with con := c } } ∧
      c &&& 0xF6 = v &&& 0xF6 ∧ c.getLsbD 3 = s.adc.con.getLsbD 3) ∧
    (v.getLsbD 0 = true → ∃ n, writeReg 0xF7 v s = .next { s with adc := { s.adc with
        con := v &&& 0xF6, busy := true, sar := 0x200, timer := 50 * n } } ∧
      n = (if v.extractLsb' 1 2 = 0 then 16 else if v.extractLsb' 1 2 = 1 then 8
        else if v.extractLsb' 1 2 = 2 then 4 else 1)) ∧
    (v.extractLsb' 0 2 = 0 → writeReg 0xDF v s = .next { s with sym := v &&& 0x07 }) ∧
    (v &&& 0x3F = 0 → writeReg 0xDE v s = .next { s with ftstcon := 0 }) ∧
    (v &&& 0x3F = 0 → s.ftstcon = 0 → writeReg 0xDE v s = .next s) ∧
    writeReg 0xD1 v s = .next { s with t0 := { s.t0 with data := v } } ∧
    writeReg 0xD9 v s = .next { s with sp := v } ∧
    writeReg 0xDB v s = .next { s with mdsreg := v } ∧
    writeReg 0xF2 v s = .next { s with pwm := { s.pwm with data := v } } ∧
    writeReg 0xD4 v s = .next { s with clkcon := v &&& 0x98 } ∧
    writeReg 0xD5 v s = .next { s with flags := v &&& 0xF0 } ∧
    writeReg 0xF4 v s = .next { s with stopcon := v } ∧
    writeReg 0xE0 v s = .next { s with ports := { s.ports with p0 := v } } ∧
    writeReg 0xE1 v s = .next { s with ports := { s.ports with p1 := v &&& 0x07 } } ∧
    writeReg 0xE2 v s = .next { s with ports := { s.ports with p2 := v &&& 0x7F } } ∧
    writeReg 0xE6 v s = .next { s with ports := { s.ports with p0conh := v } } ∧
    writeReg 0xE7 v s = .next { s with ports := { s.ports with p0conl := v } } ∧
    writeReg 0xE9 v s = .next { s with ports := { s.ports with p1con := v &&& 0xCF } } ∧
    writeReg 0xEA v s = .next { s with ports := { s.ports with p2conh := v &&& 0x7F } } ∧
    writeReg 0xEB v s = .next { s with ports := { s.ports with p2conl := v } }

/-- Exactly the writes that the spec refuses are refused: reserved addresses and read-only
registers (R22, a decision of the spec, 92_eei_decisions.md D9), FTSTCON with a nonzero bit 5-0
(R31), BTCON.3-2 = 11 (R28), a page other than 0 in SYM (R30, D27); log 13. -/
def Obligations.RefusedRegisterWrites : Prop :=
  ∀ (s : State) (a v : Byte),
    (a ∈ ([0xD3, 0xD6, 0xD7, 0xD8, 0xDA, 0xE3, 0xE4, 0xE5, 0xEC, 0xED, 0xEE, 0xEF, 0xF0, 0xF1,
        0xF5, 0xF6, 0xFA, 0xFB, 0xFC, 0xFD, 0xFE, 0xFF] : List Byte) →
      writeReg a v s = .refused (.reservedRegister a)) ∧
    (a = 0xD0 ∨ a = 0xDD ∨ a = 0xF8 ∨ a = 0xF9 → writeReg a v s = .refused (.writeToReadOnly a)) ∧
    (a = 0xDE ∧ v &&& 0x3F ≠ 0 → writeReg a v s = .refused .ftstconNotZero) ∧
    (a = 0xDC ∧ v.extractLsb' 2 2 = 3 → writeReg a v s = .refused .btconIllegalClock) ∧
    (a = 0xDF ∧ v.extractLsb' 0 2 ≠ 0 → writeReg a v s = .refused .symPageSelect) ∧
    (∀ r, writeReg a v s = .refused r →
      a ∈ ([0xD3, 0xD6, 0xD7, 0xD8, 0xDA, 0xE3, 0xE4, 0xE5, 0xEC, 0xED, 0xEE, 0xEF, 0xF0, 0xF1,
        0xF5, 0xF6, 0xFA, 0xFB, 0xFC, 0xFD, 0xFE, 0xFF, 0xD0, 0xDD, 0xF8, 0xF9] : List Byte) ∨
      (a = 0xDE ∧ v &&& 0x3F ≠ 0) ∨ (a = 0xDC ∧ v.extractLsb' 2 2 = 3) ∨
      (a = 0xDF ∧ v.extractLsb' 0 2 ≠ 0)) ∧
    ∀ f, writeReg a v s ≠ .fault f

/-- Register pairs (R15): the even register holds the high byte, the following odd one the low byte;
RRp is Rp and Rp+1. A working register is the register-file byte at C0H + n (R14): the two forms
that load an immediate into Rn (R132, R134) write the same byte and differ only in the pc. That an
8-bit field names Rn by C0H + n is a decision of the spec (D4, log 50). -/
def Obligations.WorkingRegistersAndPairs : Prop :=
  ∀ s : State,
    (∀ p : Pair, wr (pairReg p) = BitVec.ofNat 8 (0xC0 + 2 * p.toNat) ∧
      pairValue p s = ((peek (wr (pairReg p)) s).zeroExtend 16 <<< 8) |||
        (peek (wr (pairReg p) + 1) s).zeroExtend 16) ∧
    (∀ a, (readPair a s).1 = ((peek a s).zeroExtend 16 <<< 8) |||
      (peek (a + 1) (afterRead a s)).zeroExtend 16) ∧
    (Memory.wf ramDefault ramSize s.ram → ∀ (p : Pair) (w : Word),
      pairValue p (setPair p w s) = w ∧
      peek (wr (pairReg p)) (setPair p w s) = hiByte w ∧
      peek (wr (pairReg p) + 1) (setPair p w s) = loByte w) ∧
    (Memory.wf ramDefault ramSize s.ram → ∀ (n : WReg) (v : Byte),
      (wr n).toNat = 0xC0 + n.toNat ∧
      ∃ t, exec (.ld_r_IM n v) s = .next (t.advance 2) ∧
        exec (.ld_R_IM (BitVec.ofNat 8 (0xC0 + n.toNat)) v) s = .next (t.advance 3) ∧
        peek (wr n) t = v)

/-- The ports: the mode that each code of P0CONH, P0CONL, P1CON, P2CONH and P2CONL gives its pin
(R35, R36, R38 to R40; P1.2 by the LVR, R300 (c), and P1.0 and P1.1 by the oscillator, R270, R301,
log 23); what a read of a pin returns (60_exceptions.md R300 (b), a decision of the spec,
92_eei_decisions.md D23, log 23): the pin's level in an input mode, the latch in push-pull output
mode, a free bit in every other mode; what the chip drives on a pin (R300 (a), R301; log 43): the
latch of a push-pull output, a low latch of an open drain, the signal of an alternative function;
and after a reset every port pin is an input. -/
def Obligations.PortReads : Prop :=
  (∀ (p : Ports) (n : Nat), n < 8 →
    let code := if n < 4 then p.p0conl.extractLsb' (2 * n) 2
      else p.p0conh.extractLsb' (2 * (n - 4)) 2
    p0Mode p n = if code = 3 then .analog else if code = 2 then .pushPull
      else if n = 6 ∧ code = 1 then .alternative else .input) ∧
  (∀ (c : Params) (p : Ports) (n : Nat), n < 2 →
    p1Mode c p n = if c.oscillator = .externalRc ∨ c.oscillator = .crystal then .taken
      else if p.p1con.extractLsb' (2 * n) 2 = 2 then
        (if p.p1con.getLsbD (6 + n) = true then .openDrain else .pushPull)
      else .input) ∧
  (∀ (c : Params) (p : Ports), p1Mode c p 2 = if c.lvrEnable = true then .input else .taken) ∧
  (∀ (p : Ports) (n : Nat), n < 6 →
    let code := if n < 4 then p.p2conl.extractLsb' (2 * n) 2
      else p.p2conh.extractLsb' (2 * (n - 4)) 2
    p2Mode p n = if code = 3 then (if n = 0 then .alternative else .openDrain)
      else if code = 2 then .pushPull else .input) ∧
  (∀ p : Ports, let code := (p.p2conh.extractLsb' 4 3).toNat
    p2Mode p 6 = if code ≤ 1 then .input else if code ≤ 3 then .analog
      else if code = 4 then .pushPull else if code ≤ 6 then .openDrain else .alternative) ∧
  (∀ (s : State) (n : Nat), n < 8 → let m := p0Mode s.ports n
    (m = .input → (peek 0xE0 s).getLsbD n = s.pins.p0.getLsbD n ∧ p0Drive s n = none) ∧
    (m = .pushPull → (peek 0xE0 s).getLsbD n = s.ports.p0.getLsbD n ∧
      p0Drive s n = some (s.ports.p0.getLsbD n)) ∧
    (m ≠ .input → m ≠ .pushPull →
      (peek 0xE0 s).getLsbD n = (Config.freeByte s.draws).getLsbD n) ∧
    (m = .analog → p0Drive s n = none) ∧
    (m = .alternative → p0Drive s n = some (pwmOut s.pwm))) ∧
  (∀ (s : State) (n : Nat), n < 3 → let m := p1Mode s.cfg s.ports n
    (m = .input → (peek 0xE1 s).getLsbD n = s.pins.p1.getLsbD n ∧ p1Drive s n = none) ∧
    (m = .pushPull → (peek 0xE1 s).getLsbD n = s.ports.p1.getLsbD n ∧
      p1Drive s n = some (s.ports.p1.getLsbD n)) ∧
    (m ≠ .input → m ≠ .pushPull →
      (peek 0xE1 s).getLsbD n = (Config.freeByte s.draws).getLsbD n) ∧
    (m = .openDrain →
      p1Drive s n = if s.ports.p1.getLsbD n = true then none else some false) ∧
    (m = .taken → p1Drive s n = none)) ∧
  (∀ (s : State) (n : Nat), n < 7 → let m := p2Mode s.ports n
    (m = .input → (peek 0xE2 s).getLsbD n = s.pins.p2.getLsbD n ∧ p2Drive s n = none) ∧
    (m = .pushPull → (peek 0xE2 s).getLsbD n = s.ports.p2.getLsbD n ∧
      p2Drive s n = some (s.ports.p2.getLsbD n)) ∧
    (m ≠ .input → m ≠ .pushPull →
      (peek 0xE2 s).getLsbD n = (Config.freeByte s.draws).getLsbD n) ∧
    (m = .openDrain →
      p2Drive s n = if s.ports.p2.getLsbD n = true then none else some false) ∧
    (m = .analog → p2Drive s n = none) ∧
    (m = .alternative → p2Drive s n = some (if n = 0 then s.t0.out else s.clo))) ∧
  ∀ (s : State) (src : ResetSource) (n : Nat), let t := doReset src s
    p0Mode t.ports n = .input ∧ p2Mode t.ports n = .input ∧
    (p1Mode t.cfg t.ports n = .input ∨ p1Mode t.cfg t.ports n = .taken)

/-! ### Arithmetic (41_arithmetic.md) -/

/-- What C, Z, S and V say of the arithmetic (R160 (c)): C a carry out of or a borrow into the top
bit, V a signed result above +127 or below -128, Z and S of the stored result. -/
def Obligations.ArithmeticFlagsMeaning : Prop :=
  ∀ (f : Czsv) (dv sv : Byte),
    (let r := aluAdc f dv sv
     r.2.c = decide (256 ≤ dv.toNat + sv.toNat + f.c.toNat) ∧
     r.2.v = decide (dv.toInt + sv.toInt + f.c.toNat < -128 ∨
       127 < dv.toInt + sv.toInt + f.c.toNat) ∧ r.2.z = (r.1 == 0) ∧ r.2.s = r.1.getLsbD 7) ∧
    (let r := aluAdd f dv sv
     r.2.c = decide (256 ≤ dv.toNat + sv.toNat) ∧
     r.2.v = decide (dv.toInt + sv.toInt < -128 ∨ 127 < dv.toInt + sv.toInt) ∧
     r.2.z = (r.1 == 0) ∧ r.2.s = r.1.getLsbD 7) ∧
    (let r := aluSbc f dv sv
     r.2.c = decide (dv.toNat < sv.toNat + f.c.toNat) ∧
     r.2.v = decide (dv.toInt - sv.toInt - f.c.toNat < -128 ∨
       127 < dv.toInt - sv.toInt - f.c.toNat) ∧ r.2.z = (r.1 == 0) ∧ r.2.s = r.1.getLsbD 7) ∧
    (let r := aluSub f dv sv
     r.2.c = decide (dv.toNat < sv.toNat) ∧
     r.2.v = decide (dv.toInt - sv.toInt < -128 ∨ 127 < dv.toInt - sv.toInt) ∧
     r.2.z = (r.1 == 0) ∧ r.2.s = r.1.getLsbD 7) ∧
    (let r := aluInc f dv
     r.2.c = f.c ∧ r.2.v = decide (127 < dv.toInt + 1) ∧ r.2.z = (r.1 == 0) ∧
     r.2.s = r.1.getLsbD 7) ∧
    (let r := aluDec f dv
     r.2.c = f.c ∧ r.2.v = decide (dv.toInt - 1 < -128) ∧ r.2.z = (r.1 == 0) ∧
     r.2.s = r.1.getLsbD 7)

/-- ADC and ADD in every form (R161, R162): encodings, the sum stored, C, Z, S and V written. The V
formula is the spec's own inference from R160. -/
def Obligations.AdcAndAdd : Prop :=
  TwoOperandEncodings 0x1 .adc_r_r .adc_r_Ir .adc_R_R .adc_R_IR .adc_R_IM ∧
  TwoOperandEncodings 0x0 .add_r_r .add_r_Ir .add_R_R .add_R_IR .add_R_IM ∧
  ∀ s : State,
    TwoOperandResults .adc_r_r .adc_r_Ir .adc_R_R .adc_R_IR .adc_R_IM
      (fun f dv sv => sumRule f.c.toNat dv sv) s ∧
    TwoOperandResults .add_r_r .add_r_Ir .add_R_R .add_R_IR .add_R_IM
      (fun _ dv sv => sumRule 0 dv sv) s

/-- SBC and SUB in every form (R166, R167): encodings, the difference stored, C the borrow. -/
def Obligations.SbcAndSub : Prop :=
  TwoOperandEncodings 0x3 .sbc_r_r .sbc_r_Ir .sbc_R_R .sbc_R_IR .sbc_R_IM ∧
  TwoOperandEncodings 0x2 .sub_r_r .sub_r_Ir .sub_R_R .sub_R_IR .sub_R_IM ∧
  ∀ s : State,
    TwoOperandResults .sbc_r_r .sbc_r_Ir .sbc_R_R .sbc_R_IR .sbc_R_IM
      (fun f dv sv => diffRule f.c.toNat dv sv) s ∧
    TwoOperandResults .sub_r_r .sub_r_Ir .sub_R_R .sub_R_IR .sub_R_IM
      (fun _ dv sv => diffRule 0 dv sv) s

/-- CP in every form (R163): nothing is stored, the flags are those of the difference. -/
def Obligations.CompareOnlySetsFlags : Prop :=
  TwoOperandEncodings 0xA .cp_r_r .cp_r_Ir .cp_R_R .cp_R_IR .cp_R_IM ∧
  ∀ s : State, TwoOperandFlags .cp_r_r .cp_r_Ir .cp_R_R .cp_R_IR .cp_R_IM
    (fun _ dv sv => diffRule 0 dv sv) s

/-- DEC in both forms (R164): one less modulo 256, V for 80H, C not affected. -/
def Obligations.DecrementResult : Prop :=
  OneOperandEncodings 0x0 .dec_R .dec_IR ∧
  ∀ s : State, OneOperandResults .dec_R .dec_IR (fun f dv =>
    let res := BitVec.ofNat 8 (dv.toNat + 255)
    (res, { c := f.c, z := decide (res = 0), s := res.getLsbD 7, v := decide (dv = 0x80) })) s

/-- INC in its three forms (R165): one more modulo 256, V for 7FH (the spec's own inference from
R160; 90_conflicts.md C13), C not affected. -/
def Obligations.IncrementResult : Prop :=
  let rule : Czsv → Byte → Alu := fun f dv =>
    let res := BitVec.ofNat 8 (dv.toNat + 1)
    (res, { c := f.c, z := decide (res = 0), s := res.getLsbD 7, v := decide (dv = 0x7F) })
  OneOperandEncodings 0x2 .inc_R .inc_IR ∧
  (∀ r, decode [nibbles r 0xE] = .instr (.inc_r r)) ∧
  ∀ s : State, OneOperandResults .inc_R .inc_IR rule s ∧
    ∀ r, let q := fetchOne (.r r) s
      CompletesWithResult (.inc_r r) 1 s q (rule s.czsv q.dv)

/-! ### Logic, bit tests, rotates and the shift (42, 44, 45) -/

/-- AND, OR, XOR and COM in every form (R180 to R183): Z and S of the result, V cleared, C not
affected. -/
def Obligations.LogicOperations : Prop :=
  TwoOperandEncodings 0x5 .and_r_r .and_r_Ir .and_R_R .and_R_IR .and_R_IM ∧
  TwoOperandEncodings 0x4 .or_r_r .or_r_Ir .or_R_R .or_R_IR .or_R_IM ∧
  TwoOperandEncodings 0xB .xor_r_r .xor_r_Ir .xor_R_R .xor_R_IR .xor_R_IM ∧
  OneOperandEncodings 0x6 .com_R .com_IR ∧
  ∀ s : State,
    TwoOperandResults .and_r_r .and_r_Ir .and_R_R .and_R_IR .and_R_IM
      (fun f dv sv => logicRule f (dv &&& sv)) s ∧
    TwoOperandResults .or_r_r .or_r_Ir .or_R_R .or_R_IR .or_R_IM
      (fun f dv sv => logicRule f (dv ||| sv)) s ∧
    TwoOperandResults .xor_r_r .xor_r_Ir .xor_R_R .xor_R_IR .xor_R_IM
      (fun f dv sv => logicRule f (dv ^^^ sv)) s ∧
    OneOperandResults .com_R .com_IR
      (fun f dv => logicRule f (BitVec.ofNat 8 (255 - dv.toNat))) s

/-- TCM and TM in every form (R205, R206): nothing is stored; Z says that every selected bit is 1
(TCM) or 0 (TM), V is cleared, C not affected. TCM's codes 62 to 66 are those of R205
(90_conflicts.md C10). -/
def Obligations.BitTests : Prop :=
  TwoOperandEncodings 0x6 .tcm_r_r .tcm_r_Ir .tcm_R_R .tcm_R_IR .tcm_R_IM ∧
  TwoOperandEncodings 0x7 .tm_r_r .tm_r_Ir .tm_R_R .tm_R_IR .tm_R_IM ∧
  (∀ dv sv : Byte, ((logicRule (Czsv.ofByte 0) (~~~dv &&& sv)).2.z = true ↔
      ∀ n < 8, sv.getLsbD n = true → dv.getLsbD n = true) ∧
    ((logicRule (Czsv.ofByte 0) (dv &&& sv)).2.z = true ↔
      ∀ n < 8, sv.getLsbD n = true → dv.getLsbD n = false)) ∧
  ∀ s : State,
    TwoOperandFlags .tcm_r_r .tcm_r_Ir .tcm_R_R .tcm_R_IR .tcm_R_IM
      (fun f dv sv => logicRule f (~~~dv &&& sv)) s ∧
    TwoOperandFlags .tm_r_r .tm_r_Ir .tm_R_R .tm_R_IR .tm_R_IM
      (fun f dv sv => logicRule f (dv &&& sv)) s

/-- RL, RLC, RR and RRC in both forms (R210 to R213), in whole numbers: C is the bit shifted out, V
says that the sign changed. SRA (R214): the floor of half the signed value, V cleared. -/
def Obligations.RotatesAndShift : Prop :=
  OneOperandEncodings 0x9 .rl_R .rl_IR ∧ OneOperandEncodings 0x1 .rlc_R .rlc_IR ∧
  OneOperandEncodings 0xE .rr_R .rr_IR ∧ OneOperandEncodings 0xC .rrc_R .rrc_IR ∧
  OneOperandEncodings 0xD .sra_R .sra_IR ∧
  ∀ s : State,
    OneOperandResults .rl_R .rl_IR (fun _ dv =>
      rotateRule dv (BitVec.ofNat 8 (dv.toNat * 2 + dv.toNat / 128)) (decide (128 ≤ dv.toNat))) s ∧
    OneOperandResults .rlc_R .rlc_IR (fun f dv =>
      rotateRule dv (BitVec.ofNat 8 (dv.toNat * 2 + f.c.toNat)) (decide (128 ≤ dv.toNat))) s ∧
    OneOperandResults .rr_R .rr_IR (fun _ dv =>
      rotateRule dv (BitVec.ofNat 8 (dv.toNat / 2 + 128 * (dv.toNat % 2)))
        (decide (dv.toNat % 2 = 1))) s ∧
    OneOperandResults .rrc_R .rrc_IR (fun f dv =>
      rotateRule dv (BitVec.ofNat 8 (dv.toNat / 2 + 128 * f.c.toNat))
        (decide (dv.toNat % 2 = 1))) s ∧
    OneOperandResults .sra_R .sra_IR (fun _ dv =>
      let res := BitVec.ofInt 8 (dv.toInt / 2)
      (res, { c := decide (dv.toNat % 2 = 1), z := decide (res = 0), s := res.getLsbD 7,
              v := false })) s

/-- Where a storing instruction that writes flags has a destination that a write does not reach, it
is refused (R22, a decision of the spec, 92_eei_decisions.md D9); where the destination is FLAGS,
FLAGS.7-4 are a free value afterwards and everything else is as the rule says (R160 (d), R331, a
decision of the spec, D22; log 11): every form of ADC, ADD, SBC, SUB, AND, OR, XOR, COM, DEC, INC,
RL, RLC, RR, RRC and SRA. -/
def Obligations.ResultStoreStops : Prop :=
  ∀ s : State,
    TwoOperandStops .adc_r_r .adc_r_Ir .adc_R_R .adc_R_IR .adc_R_IM aluAdc s ∧
    TwoOperandStops .add_r_r .add_r_Ir .add_R_R .add_R_IR .add_R_IM aluAdd s ∧
    TwoOperandStops .sbc_r_r .sbc_r_Ir .sbc_R_R .sbc_R_IR .sbc_R_IM aluSbc s ∧
    TwoOperandStops .sub_r_r .sub_r_Ir .sub_R_R .sub_R_IR .sub_R_IM aluSub s ∧
    TwoOperandStops .and_r_r .and_r_Ir .and_R_R .and_R_IR .and_R_IM aluAnd s ∧
    TwoOperandStops .or_r_r .or_r_Ir .or_R_R .or_R_IR .or_R_IM aluOr s ∧
    TwoOperandStops .xor_r_r .xor_r_Ir .xor_R_R .xor_R_IR .xor_R_IM aluXor s ∧
    OneOperandStops .com_R .com_IR aluCom s ∧ OneOperandStops .dec_R .dec_IR aluDec s ∧
    OneOperandStops .inc_R .inc_IR aluInc s ∧ OneOperandStops .rl_R .rl_IR aluRl s ∧
    OneOperandStops .rlc_R .rlc_IR aluRlc s ∧ OneOperandStops .rr_R .rr_IR aluRr s ∧
    OneOperandStops .rrc_R .rrc_IR aluRrc s ∧ OneOperandStops .sra_R .sra_IR aluSra s

/-- After CP the conditions compare the operands (R168 (a)): ULT, UGE, ULE, UGT unsigned, LT, GE,
LE, GT signed, EQ and NE. -/
def Obligations.CompareConditions : Prop :=
  ∀ (f : Czsv) (a b : Byte), let g := (aluCp f a b).2
    (g.holds .c ↔ a.toNat < b.toNat) ∧ (g.holds .nc ↔ b.toNat ≤ a.toNat) ∧
    (g.holds .ule ↔ a.toNat ≤ b.toNat) ∧ (g.holds .ugt ↔ b.toNat < a.toNat) ∧
    (g.holds .z ↔ a = b) ∧ (g.holds .nz ↔ a ≠ b) ∧
    (g.holds .lt ↔ a.toInt < b.toInt) ∧ (g.holds .ge ↔ b.toInt ≤ a.toInt) ∧
    (g.holds .le ↔ a.toInt ≤ b.toInt) ∧ (g.holds .gt ↔ b.toInt < a.toInt)

/-- Multi-byte arithmetic (R168 (b)): ADD of the low bytes, then ADC of the high bytes, is the 16-bit
sum with the carry out of bit 15 in C; SUB then SBC the difference with the borrow; and INC and DEC
between them leave C (R168 (d)). -/
def Obligations.MultiByteArithmetic : Prop :=
  ∀ (f : Czsv) (a b : Word) (p : Byte),
    (let lo := aluAdd f (loByte a) (loByte b)
     let hi := aluAdc (aluInc lo.2 p).2 (hiByte a) (hiByte b)
     wordOf hi.1 lo.1 = a + b ∧ hi.2.c = decide (65536 ≤ a.toNat + b.toNat)) ∧
    (let lo := aluSub f (loByte a) (loByte b)
     let hi := aluSbc (aluDec lo.2 p).2 (hiByte a) (hiByte b)
     wordOf hi.1 lo.1 = a - b ∧ hi.2.c = decide (a.toNat < b.toNat))

/-! ### Load instructions (40_load.md) -/

/-- CLR and the LD forms over registers (R131 to R135): encodings, the byte moved, no flag
written. -/
def Obligations.ClearAndLoad : Prop :=
  OneOperandEncodings 0xB .clr_R .clr_IR ∧
  (∀ r b, decode [nibbles r 0xC, b] = .instr (.ld_r_IM r b) ∧
    decode [nibbles r 0x8, b] = .instr (.ld_r_R r b) ∧
    decode [nibbles r 0x9, b] = .instr (.ld_R_r b r)) ∧
  (∀ d r, decode [0xC7, nibbles d r] = .instr (.ld_r_Ir d r) ∧
    decode [0xD7, nibbles d r] = .instr (.ld_Ir_r d r)) ∧
  (∀ b2 b3, decode [0xE4, b2, b3] = .instr (.ld_R_R b3 b2) ∧
    decode [0xE5, b2, b3] = .instr (.ld_R_IR b3 b2) ∧
    decode [0xE6, b2, b3] = .instr (.ld_R_IM b2 b3) ∧
    decode [0xD6, b2, b3] = .instr (.ld_IR_IM b2 b3) ∧
    decode [0xF5, b2, b3] = .instr (.ld_IR_R b3 b2)) ∧
  ∀ s : State,
    (∀ a, CompletesWithMove (.clr_R a) 2 s a 0 s) ∧
    (∀ a, CompletesWithMove (.clr_IR a) 2 s (peek a s) 0 (afterRead a s)) ∧
    (∀ r v, exec (.ld_r_IM r v) s = .next ((storeReg (wr r) v s).advance 2)) ∧
    (∀ r a, exec (.ld_r_R r a) s =
      .next ((storeReg (wr r) (peek a s) (afterRead a s)).advance 2)) ∧
    (∀ a r, CompletesWithMove (.ld_R_r a r) 2 s a (peek (wr r) s) s) ∧
    (∀ d r, exec (.ld_r_Ir d r) s =
      .next ((storeReg (wr d) (peek (peek (wr r) s) s) (afterRead (peek (wr r) s) s)).advance 2)) ∧
    (∀ d r, CompletesWithMove (.ld_Ir_r d r) 2 s (peek (wr d) s) (peek (wr r) s) s) ∧
    (∀ d a, CompletesWithMove (.ld_R_R d a) 3 s d (peek a s) (afterRead a s)) ∧
    (∀ d a, let u := afterRead a s
      CompletesWithMove (.ld_R_IR d a) 3 s d (peek (peek a s) u) (afterRead (peek a s) u)) ∧
    (∀ d v, CompletesWithMove (.ld_R_IM d v) 3 s d v s) ∧
    (∀ d v, CompletesWithMove (.ld_IR_IM d v) 3 s (peek d s) v (afterRead d s)) ∧
    (∀ d a, let u := afterRead d s
      CompletesWithMove (.ld_IR_R d a) 3 s (peek d s) (peek a u) (afterRead a u))

/-- LD indexed (R136): the address is the base plus the index register modulo 256 (the wrap is a
decision of the spec, 92_eei_decisions.md D13). -/
def Obligations.LoadIndexed : Prop :=
  (∀ hi lo x, decode [0x87, nibbles hi lo, x] = .instr (.ld_r_X hi x lo) ∧
    decode [0x97, nibbles hi lo, x] = .instr (.ld_X_r x lo hi)) ∧
  ∀ s : State,
    (∀ d x i, let ea := BitVec.ofNat 8 (x.toNat + (peek (wr i) s).toNat)
      exec (.ld_r_X d x i) s =
        .next ((storeReg (wr d) (peek ea s) (afterRead ea s)).advance 3)) ∧
    (∀ x i r, CompletesWithMove (.ld_X_r x i r) 3 s
      (BitVec.ofNat 8 (x.toNat + (peek (wr i) s).toNat)) (peek (wr r) s) s)

/-- A move, a POP or a PUSH to an address that a write does not reach is refused (R22, a decision of
the spec, 92_eei_decisions.md D9, D30; log 13). -/
def Obligations.MoveStops : Prop :=
  ∀ (s : State) (x : Refusal),
    (∀ a, writeRefusal a 0 = some x → exec (.clr_R a) s = .refused x) ∧
    (∀ a, writeRefusal (peek a s) 0 = some x → exec (.clr_IR a) s = .refused x) ∧
    (∀ a r, writeRefusal a (peek (wr r) s) = some x → exec (.ld_R_r a r) s = .refused x) ∧
    (∀ d r, writeRefusal (peek (wr d) s) (peek (wr r) s) = some x →
      exec (.ld_Ir_r d r) s = .refused x) ∧
    (∀ d a, writeRefusal d (peek a s) = some x → exec (.ld_R_R d a) s = .refused x) ∧
    (∀ d a, writeRefusal d (peek (peek a s) (afterRead a s)) = some x →
      exec (.ld_R_IR d a) s = .refused x) ∧
    (∀ d v, writeRefusal d v = some x → exec (.ld_R_IM d v) s = .refused x) ∧
    (∀ d v, writeRefusal (peek d s) v = some x → exec (.ld_IR_IM d v) s = .refused x) ∧
    (∀ d a, writeRefusal (peek d s) (peek a (afterRead d s)) = some x →
      exec (.ld_IR_R d a) s = .refused x) ∧
    (∀ b i r, writeRefusal (b + peek (wr i) s) (peek (wr r) s) = some x →
      exec (.ld_X_r b i r) s = .refused x) ∧
    (∀ a, writeRefusal a (peek s.sp s) = some x → exec (.pop_R a) s = .refused x) ∧
    (∀ a, writeRefusal (peek a s) (peek s.sp (afterRead a s)) = some x →
      exec (.pop_IR a) s = .refused x) ∧
    (∀ a, writeRefusal (s.sp - 1) (peek a { s with sp := s.sp - 1 }) = some x →
      exec (.push_R a) s = .refused x) ∧
    (∀ a, writeRefusal (s.sp - 1) (peek (peek a s) { afterRead a s with sp := s.sp - 1 }) = some x →
      exec (.push_IR a) s = .refused x)

/-- LDC load forms (R137): one byte of program memory into a working register, the pair unchanged
unless it holds the destination. At or above ROM_SIZE they stop with the fault of R52, a decision of
the spec (D2, log 13), and the address sums wrap at 65536 (D13, log 45). -/
def Obligations.LdcLoads : Prop :=
  (∀ d p xs, decode [0xC3, nibbles d (pairNibble p false)] = .instr (.ldc_r_Irr d p) ∧
    decode [0xE7, nibbles d (pairNibble p false), xs] = .instr (.ldc_r_XS d xs p)) ∧
  (∀ d p lo hi, decode [0xA7, nibbles d (pairNibble p false), lo, hi] =
    .instr (if p = 0 then .ldc_r_DA d (wordOf hi lo) else .ldc_r_XL d (wordOf hi lo) p)) ∧
  ∀ (s : State) (i : Instr) (d : WReg) (ea : Word) (len : Nat),
    ((∃ p, i = .ldc_r_Irr d p ∧ ea = pairValue p s ∧ len = 2) ∨
     (∃ xs p, i = .ldc_r_XS d xs p ∧ ea = pairValue p s + xs.signExtend 16 ∧ len = 3) ∨
     (∃ xl p, i = .ldc_r_XL d xl p ∧ ea = pairValue p s + xl ∧ len = 4) ∨
     (i = .ldc_r_DA d ea ∧ len = 4)) →
    (ea.toNat < s.cfg.romSize →
      exec i s = .next ((storeReg (wr d) (progByte ea s) s).advance len)) ∧
    (s.cfg.romSize ≤ ea.toNat → exec i s = .fault (.programAddressOutOfRange ea))

/-- LDC store forms (R138): refused where program memory is constant, as on every part in scope
(R53, a decision of the spec, 92_eei_decisions.md D8); where it accepts the write (the model's
parameter, log 15) the byte is stored and read back, and at or above ROM_SIZE the store is the fault
of R52 (D2, log 13). The address sums wrap at 65536 (D13, log 45). -/
def Obligations.LdcStores : Prop :=
  (∀ p r xs, decode [0xD3, nibbles r (pairNibble p false)] = .instr (.ldc_Irr_r p r) ∧
    decode [0xF7, nibbles r (pairNibble p false), xs] = .instr (.ldc_XS_r xs p r)) ∧
  (∀ p r lo hi, decode [0xB7, nibbles r (pairNibble p false), lo, hi] =
    .instr (if p = 0 then .ldc_DA_r (wordOf hi lo) r else .ldc_XL_r (wordOf hi lo) p r)) ∧
  ∀ (s : State) (i : Instr) (r : WReg) (ea : Word) (len : Nat),
    ((∃ p, i = .ldc_Irr_r p r ∧ ea = pairValue p s ∧ len = 2) ∨
     (∃ xs p, i = .ldc_XS_r xs p r ∧ ea = pairValue p s + xs.signExtend 16 ∧ len = 3) ∨
     (∃ xl p, i = .ldc_XL_r xl p r ∧ ea = pairValue p s + xl ∧ len = 4) ∨
     (i = .ldc_DA_r ea r ∧ len = 4)) →
    (s.cfg.progWritable = false → exec i s = .refused .storeToProgramMemory) ∧
    (s.cfg.progWritable = true → s.cfg.romSize ≤ ea.toNat →
      exec i s = .fault (.programAddressOutOfRange ea)) ∧
    (s.cfg.progWritable = true → ea.toNat < s.cfg.romSize →
      Memory.wf progDefault addressSpace s.prog →
      ∃ m, exec i s = .next { s with prog := m, pc := s.pc + BitVec.ofNat 16 len } ∧
        cellRead progDefault m ea.toNat = peek (wr r) s ∧
        ∀ a, a ≠ ea.toNat → cellRead progDefault m a = cellRead progDefault s.prog a)

/-- LDE load and store forms (R139): refused without data memory (R54, decisions of the spec,
92_eei_decisions.md D7, D29; log 13, log 50); with it, a byte loaded or stored as R137 and R138
address it, the address sums modulo 65536 (D13, log 45). -/
def Obligations.LdeForms : Prop :=
  (∀ d p xs, decode [0xC3, nibbles d (pairNibble p true)] = .instr (.lde_r_Irr d p) ∧
    decode [0xE7, nibbles d (pairNibble p true), xs] = .instr (.lde_r_XS d xs p)) ∧
  (∀ d p lo hi, decode [0xA7, nibbles d (pairNibble p true), lo, hi] =
    .instr (if p = 0 then .lde_r_DA d (wordOf hi lo) else .lde_r_XL d (wordOf hi lo) p)) ∧
  (∀ p r xs, decode [0xD3, nibbles r (pairNibble p true)] = .instr (.lde_Irr_r p r) ∧
    decode [0xF7, nibbles r (pairNibble p true), xs] = .instr (.lde_XS_r xs p r)) ∧
  (∀ p r lo hi, decode [0xB7, nibbles r (pairNibble p true), lo, hi] =
    .instr (if p = 0 then .lde_DA_r (wordOf hi lo) r else .lde_XL_r (wordOf hi lo) p r)) ∧
  ∀ (s : State) (ea : Word) (len : Nat),
    (∀ (i : Instr) (d : WReg),
      ((∃ p, i = .lde_r_Irr d p ∧ ea = pairValue p s ∧ len = 2) ∨
       (∃ xs p, i = .lde_r_XS d xs p ∧ ea = pairValue p s + xs.signExtend 16 ∧ len = 3) ∨
       (∃ xl p, i = .lde_r_XL d xl p ∧ ea = pairValue p s + xl ∧ len = 4) ∨
       (i = .lde_r_DA d ea ∧ len = 4)) →
      (s.cfg.hasDataMem = false → exec i s = .refused .noDataMemory) ∧
      (s.cfg.hasDataMem = true →
        exec i s = .next ((storeReg (wr d) (dataByte ea s) s).advance len))) ∧
    (∀ (i : Instr) (r : WReg),
      ((∃ p, i = .lde_Irr_r p r ∧ ea = pairValue p s ∧ len = 2) ∨
       (∃ xs p, i = .lde_XS_r xs p r ∧ ea = pairValue p s + xs.signExtend 16 ∧ len = 3) ∨
       (∃ xl p, i = .lde_XL_r xl p r ∧ ea = pairValue p s + xl ∧ len = 4) ∨
       (i = .lde_DA_r ea r ∧ len = 4)) →
      (s.cfg.hasDataMem = false → exec i s = .refused .noDataMemory) ∧
      (s.cfg.hasDataMem = true → Memory.wf dataDefault addressSpace s.data →
        ∃ m, exec i s = .next { s with data := m, pc := s.pc + BitVec.ofNat 16 len } ∧
          cellRead dataDefault m ea.toNat = peek (wr r) s ∧
          ∀ a, a ≠ ea.toNat → cellRead dataDefault m a = cellRead dataDefault s.data a))

/-- LDCD, LDCI, LDED and LDEI (R140 to R143): the byte at the pair is loaded, then the pair as it
then stands is stepped by one as a 16-bit number (the wrap and the order where they overlap are
decisions of the spec, 92_eei_decisions.md D13, D31; log 45, log 30). Program memory at or above
ROM_SIZE is the fault of R52 (D2) and absent data memory the refusal of R54 (D7), decisions of the
spec as well (log 13). -/
def Obligations.LoadAndStepPair : Prop :=
  (∀ d p, decode [0xE2, nibbles d (pairNibble p false)] = .instr (.ldcd_r_Irr d p) ∧
    decode [0xE2, nibbles d (pairNibble p true)] = .instr (.lded_r_Irr d p) ∧
    decode [0xE3, nibbles d (pairNibble p false)] = .instr (.ldci_r_Irr d p) ∧
    decode [0xE3, nibbles d (pairNibble p true)] = .instr (.ldei_r_Irr d p)) ∧
  ∀ (s : State) (d : WReg) (p : Pair),
    let after (delta : Word) (v : Byte) : State :=
      let t := storeReg (wr d) v s
      (setPair p (pairValue p t + delta) t).advance 2
    ((pairValue p s).toNat < s.cfg.romSize →
      exec (.ldcd_r_Irr d p) s = .next (after 0xFFFF (progByte (pairValue p s) s)) ∧
      exec (.ldci_r_Irr d p) s = .next (after 0x0001 (progByte (pairValue p s) s))) ∧
    (s.cfg.romSize ≤ (pairValue p s).toNat →
      exec (.ldcd_r_Irr d p) s = .fault (.programAddressOutOfRange (pairValue p s)) ∧
      exec (.ldci_r_Irr d p) s = .fault (.programAddressOutOfRange (pairValue p s))) ∧
    (s.cfg.hasDataMem = true →
      exec (.lded_r_Irr d p) s = .next (after 0xFFFF (dataByte (pairValue p s) s)) ∧
      exec (.ldei_r_Irr d p) s = .next (after 0x0001 (dataByte (pairValue p s) s))) ∧
    (s.cfg.hasDataMem = false → exec (.lded_r_Irr d p) s = .refused .noDataMemory ∧
      exec (.ldei_r_Irr d p) s = .refused .noDataMemory)

/-- POP and PUSH (R144, R145, R61): a pop loads, stores, then increments SP; a push decrements SP,
then loads and stores (the order where the operand is SP and the wrap of SP are decisions of the
spec, 92_eei_decisions.md D31, D13; log 30, log 45). -/
def Obligations.PopAndPush : Prop :=
  OneOperandEncodings 0x5 .pop_R .pop_IR ∧ OneOperandEncodings 0x7 .push_R .push_IR ∧
  ∀ s : State,
    (∀ a, writeRefusal a (peek s.sp s) = none →
      let t := storeReg a (peek s.sp s) (afterRead s.sp s)
      exec (.pop_R a) s = .next { t with sp := t.sp + 1, pc := s.pc + 2 }) ∧
    (∀ a, let u := afterRead a s
      writeRefusal (peek a s) (peek s.sp u) = none →
      let t := storeReg (peek a s) (peek s.sp u) (afterRead s.sp u)
      exec (.pop_IR a) s = .next { t with sp := t.sp + 1, pc := s.pc + 2 }) ∧
    (∀ a, let u := { s with sp := s.sp - 1 }
      writeRefusal (s.sp - 1) (peek a u) = none →
      exec (.push_R a) s =
        .next ((storeReg (s.sp - 1) (peek a u) (afterRead a u)).advance 2)) ∧
    (∀ a, let u := { afterRead a s with sp := s.sp - 1 }
      writeRefusal (s.sp - 1) (peek (peek a s) u) = none →
      exec (.push_IR a) s =
        .next ((storeReg (s.sp - 1) (peek (peek a s) u) (afterRead (peek a s) u)).advance 2))

/-! ### Program control (43_program_control.md) -/

/-- JP cc,DA, JR cc,RA and JP IRR (R192, R193): the target where the condition holds, else the next
instruction; an odd pair address is refused (R58, a decision of the spec, 92_eei_decisions.md D10).
The byte order of DA and the base of RA are the spec's, from general knowledge (D3, D12; log 16,
log 17); the wrap of the pc is its decision D13 (log 45). -/
def Obligations.Jumps : Prop :=
  (∀ cc hi lo, decode [nibbles cc 0xD, hi, lo] =
    .instr (.jp_cc_DA (.ofCode cc) (BitVec.ofNat 16 (hi.toNat * 256 + lo.toNat)))) ∧
  (∀ cc off, decode [nibbles cc 0xB, off] = .instr (.jr_cc_RA (.ofCode cc) off)) ∧
  (∀ a, decode [0x30, a] = .instr (.jp_IRR a)) ∧
  ∀ s : State,
    (∀ cc da, exec (.jp_cc_DA cc da) s =
      .next { s with pc := if s.czsv.holds cc then da else s.pc + 3 }) ∧
    (∀ cc off, exec (.jr_cc_RA cc off) s = .next { s with
      pc := if s.czsv.holds cc then BitVec.ofInt 16 (s.pc.toNat + 2 + off.toInt)
        else s.pc + 2 }) ∧
    ∀ a, (a.getLsbD 0 = false → ∃ k, exec (.jp_IRR a) s =
        .next { s with pc := (readPair a s).1, draws := s.draws + k }) ∧
      (a.getLsbD 0 = true → exec (.jp_IRR a) s = .refused (.oddRegisterPair a))

/-- CALL DA and CALL IRR (R190): the address of the next instruction is pushed, low byte first, and
the pc goes to the target, read before the pushes (92_eei_decisions.md D31; log 30). With the stack
in the general-purpose bytes the high byte is at the new SP and the low byte above it, and every
other byte of the register file below D0H is as before. Refused are an odd pair address (R58, D10; log 29)
and a stack that runs into an address that a write does not reach (R22, R61, D9, D30; log 13,
log 30).
The order of the two bytes of DA is the spec's own, from general knowledge (D3, G1; log 16), and the
wrap of SP and pc its decision D13 (log 45). -/
def Obligations.Calls : Prop :=
  (∀ hi lo, decode [0xF6, hi, lo] =
    .instr (.call_DA (BitVec.ofNat 16 (hi.toNat * 256 + lo.toNat)))) ∧
  (∀ a, decode [0xF4, a] = .instr (.call_IRR a)) ∧
  (∀ (s : State) (a : Byte), a.getLsbD 0 = true →
    exec (.call_IRR a) s = .refused (.oddRegisterPair a)) ∧
  ∀ (s u : State) (i : Instr) (len : Nat) (target : Word),
    ((i = .call_DA target ∧ len = 3 ∧ u = s) ∨
     (∃ a, i = .call_IRR a ∧ len = 2 ∧ a.getLsbD 0 = false ∧ (target, u) = readPair a s)) →
    let ret := s.pc + BitVec.ofNat 16 len
    let v := storeReg (s.sp - 1) (loByte ret) { u with sp := s.sp - 1 }
    (writeRefusal (s.sp - 1) (loByte ret) = none → writeRefusal (v.sp - 1) (hiByte ret) = none →
      exec i s = .next
        ((storeReg (v.sp - 1) (hiByte ret) { v with sp := v.sp - 1 }).goto target)) ∧
    (∀ r, writeRefusal (s.sp - 1) (loByte ret) = some r → exec i s = .refused r) ∧
    (∀ r, writeRefusal (s.sp - 1) (loByte ret) = none →
      writeRefusal (v.sp - 1) (hiByte ret) = some r → exec i s = .refused r) ∧
    ((s.sp - 1).toNat < 0xD0 → (s.sp - 2).toNat < 0xD0 →
      Memory.wf ramDefault ramSize s.ram →
      ∃ t, exec i s = .next t ∧ t.pc = target ∧ t.sp = s.sp - 2 ∧
        peek t.sp t = hiByte ret ∧ peek (t.sp + 1) t = loByte ret ∧
        (∀ b : Byte, b.toNat < 0xD0 → b ≠ s.sp - 1 → b ≠ s.sp - 2 → peek b t = peek b s) ∧
        t = { s with pc := t.pc, sp := t.sp, ram := t.ram, draws := t.draws })

/-- RET (R194): the high byte is popped, then the low byte; nothing but the pc and SP changes. -/
def Obligations.ReturnPopsPc : Prop :=
  decode [0xAF] = .instr .ret ∧
  ∀ s : State,
    let u := { afterRead s.sp s with sp := s.sp + 1 }
    exec .ret s = .next { afterRead u.sp u with
      sp := s.sp + 2, pc := wordOf (peek s.sp s) (peek (s.sp + 1) u) }

/-- IRET (R191): FLAGS, then the pc, high byte first, are popped, and GIE is set. -/
def Obligations.IretPopsFlagsAndPc : Prop :=
  decode [0xBF] = .instr .iret ∧
  ∀ s : State,
    let u := storeReg 0xD5 (peek s.sp s) { afterRead s.sp s with sp := s.sp + 1 }
    let v := { afterRead u.sp u with sp := u.sp + 1 }
    exec .iret s = .next ({ afterRead v.sp v with
      sp := v.sp + 1, pc := wordOf (peek u.sp u) (peek v.sp v) }.setGie true)

/-! ### CPU control (46_cpu_control.md) -/

/-- CCF, RCF, SCF and NOP (R220, R224 to R226): C complemented, cleared, set; every other bit of
FLAGS and of the state as before. -/
def Obligations.CarryAndNop : Prop :=
  decode [0xEF] = .instr .ccf ∧ decode [0xCF] = .instr .rcf ∧ decode [0xDF] = .instr .scf ∧
  decode [0xFF] = .instr .nop ∧
  ∀ s : State,
    exec .ccf s = .next { s with pc := s.pc + 1, flags := s.flags ^^^ 0x80 } ∧
    exec .rcf s = .next { s with pc := s.pc + 1, flags := s.flags &&& 0x7F } ∧
    exec .scf s = .next { s with pc := s.pc + 1, flags := s.flags ||| 0x80 } ∧
    exec .nop s = .next { s with pc := s.pc + 1 }

/-- DI and EI (R221, R222): GIE, SYM bit 2, cleared or set, the other bits of SYM unchanged. The
sampling of a pending request right after EI is StepTakesInterruptFirst (log 42). -/
def Obligations.InterruptEnables : Prop :=
  decode [0x8F] = .instr .di ∧ decode [0x9F] = .instr .ei ∧
  ∀ s : State,
    exec .di s = .next { s with pc := s.pc + 1, sym := s.sym &&& 0xFB } ∧
    exec .ei s = .next { s with pc := s.pc + 1, sym := s.sym ||| 0x04 }

/-- IDLE and STOP (R223, R227): the mode and the pc only; STOP where STOPCON is not A5H sends the pc
to 0100H and changes nothing else (a decision of the spec, 92_eei_decisions.md D20; log 31). In
STOP mode no number of oscillator periods changes anything (R242). -/
def Obligations.IdleAndStop : Prop :=
  decode [0x6F] = .instr .idle ∧ decode [0x7F] = .instr .stop ∧
  ∀ s : State,
    exec .idle s = .next { s with pc := s.pc + 1, mode := .idle } ∧
    (s.stopcon = 0xA5 → exec .stop s = .next { s with pc := s.pc + 1, mode := .stop }) ∧
    (s.stopcon ≠ 0xA5 → exec .stop s = .next { s with pc := 0x0100 }) ∧
    ∀ n, s.mode = .stop → ticks n s = s

/-! ### Frames -/

/-- THE FRAME OF EVERY INSTRUCTION: where `exec` answers a next state, every byte of the register
file below D0H, of program memory and of data memory outside the addresses the instruction stores
to reads as before; every control register, counter and hidden device state is unchanged unless the
instruction stores to its address; SP moves only for the stack instructions, SYM only for DI, EI and
IRET, the power state only for IDLE and STOP; pins, parameters and inputs never change. -/
def Obligations.ExecFrame : Prop :=
  ∀ (i : Instr) (s t : State), exec i s = .next t →
    let e := effects i s
    (∀ b : Byte, b.toNat < 0xD0 → b ∉ e.file → peek b t = peek b s) ∧
    (∀ a : Word, a ∉ e.prog → progByte a t = progByte a s) ∧
    (∀ a : Word, a ∉ e.data → dataByte a t = dataByte a s) ∧
    (0xD1 ∉ e.file → 0xD2 ∉ e.file → t.t0 = s.t0) ∧
    (0xD4 ∉ e.file → t.clkcon = s.clkcon) ∧
    (0xD9 ∉ e.file → e.sp = false → t.sp = s.sp) ∧
    (0xDB ∉ e.file → t.mdsreg = s.mdsreg) ∧
    (0xDC ∉ e.file → t.bt = s.bt ∧ t.div = s.div) ∧
    (0xDE ∉ e.file → t.ftstcon = s.ftstcon) ∧
    (0xDF ∉ e.file → e.gie = false → t.sym = s.sym) ∧
    (0xE0 ∉ e.file → t.ports.p0 = s.ports.p0) ∧ (0xE1 ∉ e.file → t.ports.p1 = s.ports.p1) ∧
    (0xE2 ∉ e.file → t.ports.p2 = s.ports.p2) ∧
    (0xE6 ∉ e.file → t.ports.p0conh = s.ports.p0conh) ∧
    (0xE7 ∉ e.file → t.ports.p0conl = s.ports.p0conl) ∧
    (0xE8 ∉ e.file → t.ports.p0pnd = s.ports.p0pnd) ∧
    (0xE9 ∉ e.file → t.ports.p1con = s.ports.p1con) ∧
    (0xEA ∉ e.file → t.ports.p2conh = s.ports.p2conh) ∧
    (0xEB ∉ e.file → t.ports.p2conl = s.ports.p2conl) ∧
    (0xF2 ∉ e.file → 0xF3 ∉ e.file → t.pwm = s.pwm) ∧
    (0xF4 ∉ e.file → t.stopcon = s.stopcon) ∧ (0xF7 ∉ e.file → t.adc = s.adc) ∧
    (e.mode = false → t.mode = s.mode) ∧
    t.clo = s.clo ∧ t.pins = s.pins ∧ t.cfg = s.cfg ∧ t.inputs = s.inputs

/-- THE FRAME OF THE FLAGS (R17): where an instruction does not store to FLAGS, FLAGS.3-0 are
unchanged, C is unchanged unless the instruction is one of those that write it, and Z, S and V are
unchanged unless it is one of those that write them; the data-transfer, jump, call, return and
control instructions write none. -/
def Obligations.FlagFrame : Prop :=
  ∀ (i : Instr) (s t : State), exec i s = .next t → 0xD5 ∉ (effects i s).file →
    t.flags &&& 0x0F = s.flags &&& 0x0F ∧
    ((effects i s).flags = .none → t.flags = s.flags) ∧
    ((effects i s).flags = .zsv → t.czsv.c = s.czsv.c) ∧
    ((effects i s).flags = .carry →
      t.czsv.z = s.czsv.z ∧ t.czsv.s = s.czsv.s ∧ t.czsv.v = s.czsv.v)

/-- Software cannot raise an interrupt (60_exceptions.md R234 (c)): no instruction sets a pending
bit, whatever it stores and wherever. -/
def Obligations.SoftwareNeverSetsPending : Prop :=
  ∀ (i : Instr) (s t : State), exec i s = .next t →
    (t.t0.con.getLsbD 0 = true → s.t0.con.getLsbD 0 = true) ∧
    (t.pwm.con.getLsbD 0 = true → s.pwm.con.getLsbD 0 = true) ∧
    (t.ports.p0pnd.getLsbD 0 = true → s.ports.p0pnd.getLsbD 0 = true) ∧
    (t.ports.p0pnd.getLsbD 2 = true → s.ports.p0pnd.getLsbD 2 = true)

/-! ### Interrupts, reset, power states and the on-chip agents (60_exceptions.md, 70) -/

/-- The request line is a pure function of the enable and pending bits (R235). -/
def Obligations.InterruptRequest : Prop :=
  ∀ s : State,
    (s.irq = true ↔
      (s.t0.con.getLsbD 1 = true ∧ s.t0.con.getLsbD 0 = true) ∨
      (s.pwm.con.getLsbD 1 = true ∧ s.pwm.con.getLsbD 0 = true) ∨
      (s.ports.p0pnd.getLsbD 1 = true ∧ s.ports.p0pnd.getLsbD 0 = true) ∨
      (s.ports.p0pnd.getLsbD 3 = true ∧ s.ports.p0pnd.getLsbD 2 = true)) ∧
    (s.irqExt = true ↔
      (s.ports.p0pnd.getLsbD 1 = true ∧ s.ports.p0pnd.getLsbD 0 = true) ∨
      (s.ports.p0pnd.getLsbD 3 = true ∧ s.ports.p0pnd.getLsbD 2 = true)) ∧
    (s.gie = s.sym.getLsbD 2)

/-- TAKING AN INTERRUPT (R237): GIE cleared; PCL, PCH and FLAGS pushed, so that FLAGS is at the new
SP, PCH above it and PCL above that; the pc from the vector, high byte at 0000H; nothing else
changes, no pending bit is cleared, the other bits of SYM and every other byte below D0H are as
before. With the three stack bytes in the general-purpose area and the vector inside the ROM. -/
def Obligations.InterruptEntry : Prop :=
  ∀ s : State, Memory.wf ramDefault ramSize s.ram → 2 ≤ s.cfg.romSize →
    (s.sp - 1).toNat < 0xD0 → (s.sp - 2).toNat < 0xD0 → (s.sp - 3).toNat < 0xD0 →
    ∃ t, interruptEntry s = .next t ∧
      t.pc = BitVec.ofNat 16 ((progByte 0x0000 s).toNat * 256 + (progByte 0x0001 s).toNat) ∧
      t.sp = s.sp - 3 ∧ t.sym = s.sym &&& 0xFB ∧
      peek t.sp t &&& 0xF0 = s.flags &&& 0xF0 ∧ peek (t.sp + 1) t = hiByte s.pc ∧
      peek (t.sp + 2) t = loByte s.pc ∧
      (∀ b : Byte, b.toNat < 0xD0 → b ≠ s.sp - 1 → b ≠ s.sp - 2 → b ≠ s.sp - 3 →
        peek b t = peek b s) ∧
      t = { s with pc := t.pc, sp := t.sp, sym := t.sym, ram := t.ram, draws := t.draws }

/-- IRET IS THE INVERSE OF THE ENTRY (R238): right after an interrupt is taken, IRET restores the pc,
SP, FLAGS, SYM and the power state; of the whole machine only the three bytes below SP and the
count of free values drawn differ. -/
def Obligations.IretInvertsEntry : Prop :=
  ∀ s t : State, s.Inv → s.gie = true →
    (s.sp - 1).toNat < 0xD0 → (s.sp - 2).toNat < 0xD0 → (s.sp - 3).toNat < 0xD0 →
    interruptEntry s = .next t →
    ∃ u, exec .iret t = .next u ∧
      (∀ b : Byte, b ≠ s.sp - 1 → b ≠ s.sp - 2 → b ≠ s.sp - 3 →
        storedByte b u = storedByte b s) ∧
      u = { s with ram := u.ram, draws := u.draws }

/-- What every reset leaves (10_state.md R21, R48; 70_reset_and_hazards.md R322, R323): each control
register at its reset value, the pc at 0100H, interrupts off with nothing pending, the hidden
counters cleared, RESET_WAIT; the RESET pin and the watchdog keep the 208 general-purpose bytes
(the last three points are decisions of the spec, 92_eei_decisions.md D17; log 6, log 35). And what
the first instruction finds (R326) where no reset is requested any more: after 65536 oscillator
periods RUN at 0100H, no interrupt, BTCNT.4 set, and under EXACT BTCNT and T0CNT at 10H and
240 * 4096 periods to the watchdog's reset. -/
def Obligations.ResetState : Prop :=
  ∀ (src : ResetSource) (s : State), let t := doReset src s
    t.pc = 0x0100 ∧ t.mode = .resetWait ∧ t.gie = false ∧ t.irq = false ∧
    t.t0.cnt = 0x00 ∧ t.t0.data = 0xFF ∧ t.t0.con = 0x00 ∧ t.clkcon = 0x00 ∧ t.mdsreg = 0x00 ∧
    t.bt.con = 0x00 ∧ t.bt.cnt = 0x00 ∧ t.ftstcon = 0x00 ∧ t.sym = 0x00 ∧
    t.ports.p0 = 0x00 ∧ t.ports.p1 = 0x00 ∧ t.ports.p2 = 0x00 ∧ t.ports.p0conh = 0x00 ∧
    t.ports.p0conl = 0x00 ∧ t.ports.p0pnd = 0x00 ∧ t.ports.p1con = 0x00 ∧
    t.ports.p2conh = 0x00 ∧ t.ports.p2conl = 0x00 ∧ t.pwm.data = 0x00 ∧ t.pwm.con = 0x00 ∧
    t.stopcon = 0x00 ∧ t.adc.con = 0x00 ∧ t.adc.datal &&& 0xFC = 0 ∧
    t.div = 0 ∧ t.pwm.cnt = 0 ∧ t.pwm.buf = 0 ∧ t.adc.busy = false ∧
    t.prog = s.prog ∧ t.cfg = s.cfg ∧
    (src = .resetPin ∨ src = .watchdog → t.ram = s.ram) ∧
    watchdogEnabled t.bt.con = true ∧ t.pins = { s.pins with resetSeen := false } ∧
    ∀ n : Nat, 65536 ≤ n → resetRequest false t = none →
      ∃ u, stepWith { powerOn := false, events := [.ticks n] } t = .next u ∧
        u.mode = .run ∧ u.pc = 0x0100 ∧ u.gie = false ∧ u.irq = false ∧
        u.bt.cnt.getLsbD 4 = true ∧
        (s.cfg.timeModel = .exact → u.bt.cnt = 0x10 ∧ u.t0.cnt = 0x10 ∧ u.div = 0 ∧
          ∀ m : Nat, (ticks m u).bt.request = true ↔ 240 * 4096 ≤ m)

/-- When a reset happens and what it does (R320, R322, R324): power-on; the supply below the LVR
level only with the LVR on; the RESET pin low only with the LVR off; a Basic Timer overflow with the
watchdog enabled. In every power state the step is that reset and no time passes. A pulse of the pin
or a dip of the supply inside one step holds the chip, with no period passing, and resets it in the
next step (the moment is the model's choice, log 54; the order of several sources is log 49). -/
def Obligations.ResetSources : Prop :=
  ∀ (s : State) (powerOn : Bool),
    (resetRequest powerOn s = none ↔ powerOn = false ∧
      ¬(s.cfg.lvrEnable = true ∧ s.pins.vddLow = true) ∧
      ¬(s.cfg.lvrEnable = false ∧ s.pins.p1.getLsbD 2 = false) ∧
      s.pins.resetSeen = false ∧ s.bt.request = false) ∧
    (resetRequest powerOn s = some .lvr →
      s.cfg.lvrEnable = true ∧ (s.pins.vddLow = true ∨ s.pins.resetSeen = true)) ∧
    (resetRequest powerOn s = some .resetPin →
      s.cfg.lvrEnable = false ∧ (s.pins.p1.getLsbD 2 = false ∨ s.pins.resetSeen = true)) ∧
    (resetRequest powerOn s = some .watchdog → s.bt.request = true) ∧
    (∀ src, resetRequest powerOn s = some src →
      stepWith { powerOn := powerOn, events := [] } s = .next (doReset src s)) ∧
    (∀ (a a' : BitVec 8) (b b' : BitVec 3) (c c' : BitVec 7) (n : Nat),
      s.cfg.lvrEnable = false → b.getLsbD 2 = false →
      let u := elapseFree [.pins a b c, .ticks n, .pins a' b' c'] s
      resetRequest false u = some .resetPin ∧ u.pins.p1 = b' ∧ u.div = s.div ∧ u.bt = s.bt) ∧
    (∀ n : Nat, s.cfg.lvrEnable = true →
      let u := elapseFree [.supply true, .ticks n, .supply false] s
      resetRequest false u = some .lvr ∧ u.pins.vddLow = false ∧ u.div = s.div ∧ u.bt = s.bt)

/-- The Basic Timer and the watchdog over any number of periods (R275, R276): from a cleared count
and divider, BTCNT is the number of Basic Timer ticks, the signal that ends the oscillator wait
comes at the 16th, and the watchdog asks for a reset at the 256th and never when BTCON.7-4 is 1010.
Overflow as FFH to 00H and the phase of the divider are decisions of the spec (92_eei_decisions.md
D17, D18). -/
def Obligations.BasicTimerAndWatchdog : Prop :=
  ∀ (s : State) (n period : Nat), s.mode ≠ .stop → s.div = 0 → s.bt.cnt = 0 →
    (s.bt.con.extractLsb' 2 2 = 0 ∧ period = 4096) ∨
      (s.bt.con.extractLsb' 2 2 = 1 ∧ period = 1024) ∨
      (s.bt.con.extractLsb' 2 2 = 2 ∧ period = 128) →
    (ticks n s).bt.con = s.bt.con ∧
    (ticks n s).bt.cnt = BitVec.ofNat 8 (n / period) ∧
    ((ticks n s).bt.stable = true ↔ s.bt.stable = true ∨ 16 * period ≤ n) ∧
    ((ticks n s).bt.request = true ↔
      s.bt.request = true ∨ (s.bt.con.extractLsb' 4 4 ≠ 0xA ∧ 256 * period ≤ n))

/-- Timer 0 over any number of periods (R283): from a cleared count and divider the match recurs
every T0DATA + 1 ticks of the selected clock; it clears the count, sets the pending bit and toggles
the output (the period is the spec's choice T0_PERIOD, 92_eei_decisions.md D28, log 22; the toggling
is from general knowledge, R284, log 26). -/
def Obligations.Timer0Matches : Prop :=
  ∀ (s : State) (n period : Nat), s.mode ≠ .stop → s.div = 0 → s.t0.cnt = 0 →
    s.cfg.t0PeriodPlusOne = true →
    (s.t0.con.extractLsb' 6 2 = 0 ∧ period = 4096) ∨
      (s.t0.con.extractLsb' 6 2 = 1 ∧ period = 256) ∨
      (s.t0.con.extractLsb' 6 2 = 2 ∧ period = 8) ∨
      (s.t0.con.extractLsb' 6 2 = 3 ∧ period = 1) →
    let wrap := s.t0.data.toNat + 1
    (ticks n s).t0.data = s.t0.data ∧
    (ticks n s).t0.cnt = BitVec.ofNat 8 (n / period % wrap) ∧
    ((ticks n s).t0.con.getLsbD 0 = true ↔ s.t0.con.getLsbD 0 = true ∨
      ((s.cfg.pendWhenDisabled = true ∨ s.t0.con.getLsbD 1 = true) ∧ period * wrap ≤ n)) ∧
    (ticks n s).t0.con &&& 0xFE = s.t0.con &&& 0xFE ∧
    (ticks n s).t0.out = (s.t0.out ^^ decide (n / period / wrap % 2 = 1))

/-- The PWM over any number of periods (R290): stopped it keeps its count; running, from a cleared
divider, it counts ticks of the selected clock modulo 256 and its 8-bit overflow sets the pending
bit; the data buffer is reloaded from PWMDATA at the 8-bit overflow, or at every 6-bit overflow
where PWMCON.4 is 1 (R292, R42). The output (R291) is high while the low six bits of the count are
below bits 7-2 of the buffer, one more in the cycles that Table 11-2 stretches. The divider taps and
the overflow taken are decisions of the spec (92_eei_decisions.md D32, D33; log 25), and so is the
numbering of the cycles (R291, log 25). -/
def Obligations.PwmCounts : Prop :=
  (∀ p : Pwm, let cycle := p.cnt.toNat / 64 + 1
    let ext := p.buf.toNat % 4
    pwmOut p = decide (p.cnt.toNat % 64 < p.buf.toNat / 4 +
      if (ext = 1 ∧ cycle = 2) ∨ (ext = 2 ∧ (cycle = 1 ∨ cycle = 3)) ∨
        (ext = 3 ∧ (cycle = 1 ∨ cycle = 2 ∨ cycle = 3)) then 1 else 0)) ∧
  ∀ (s : State) (n : Nat), s.mode ≠ .stop →
    (s.pwm.con.getLsbD 2 = false → (ticks n s).pwm = s.pwm) ∧
    ∀ period : Nat, s.pwm.con.getLsbD 2 = true → s.div = 0 →
      (s.pwm.con.extractLsb' 6 2 = 0 ∧ period = 64) ∨
        (s.pwm.con.extractLsb' 6 2 = 1 ∧ period = 8) ∨
        (s.pwm.con.extractLsb' 6 2 = 2 ∧ period = 2) ∨
        (s.pwm.con.extractLsb' 6 2 = 3 ∧ period = 1) →
      (ticks n s).pwm.cnt = s.pwm.cnt + BitVec.ofNat 8 (n / period) ∧
      (ticks n s).pwm.data = s.pwm.data ∧
      (ticks n s).pwm.buf = (if (if s.pwm.con.getLsbD 4 = true then
          64 ≤ s.pwm.cnt.toNat % 64 + n / period else 256 ≤ s.pwm.cnt.toNat + n / period)
        then s.pwm.data else s.pwm.buf) ∧
      ((ticks n s).pwm.con.getLsbD 0 = true ↔ s.pwm.con.getLsbD 0 = true ∨
        ((s.cfg.pendWhenDisabled = true ∨ s.pwm.con.getLsbD 1 = true) ∧
          256 ≤ s.pwm.cnt.toNat + n / period))

/-- An A/D conversion (R296, R297): writing 1 to ADCON.0 starts one that takes exactly 50 clocks of
the selected divider; until then EOC is 0 and ADDATA as before; then EOC is 1 and ADDATAH and
ADDATAL hold the upper eight and lower two bits of the selected input's reading, which for an
internally grounded code is within 3 of 0 (the procedure and the bits' place are decisions of the
spec, 92_eei_decisions.md D25, D34; log 24). -/
def Obligations.AdcConversion : Prop :=
  ∀ (s : State) (v : Byte) (n period : Nat), s.mode ≠ .stop → v.getLsbD 0 = true →
    (v.extractLsb' 1 2 = 0 ∧ period = 16) ∨ (v.extractLsb' 1 2 = 1 ∧ period = 8) ∨
      (v.extractLsb' 1 2 = 2 ∧ period = 4) ∨ (v.extractLsb' 1 2 = 3 ∧ period = 1) →
    let u := storeReg 0xF7 v s
    (n < 50 * period →
      (ticks n u).adc.busy = true ∧ (ticks n u).adc.con.getLsbD 3 = false ∧
      (ticks n u).adc.datah = s.adc.datah ∧ (ticks n u).adc.datal = s.adc.datal) ∧
    (50 * period ≤ n →
      let t := ticks n u
      t.adc.busy = false ∧ t.adc.con.getLsbD 3 = true ∧
      (∀ (ch : Nat) (h : ch < 9), (v.extractLsb' 4 4).toNat = ch → ch < s.cfg.adcChannels →
        t.adc.datah = (s.pins.analog[ch]).extractLsb' 2 8 ∧
        t.adc.datal = (s.pins.analog[ch].extractLsb' 0 2).zeroExtend 8) ∧
      (9 ≤ (v.extractLsb' 4 4).toNat ∨ s.cfg.adcChannels ≤ (v.extractLsb' 4 4).toNat →
        t.adc.datah = 0 ∧ t.adc.datal &&& 0xFC = 0))

/-- INT0 and INT1 (R303): a falling edge on P0.0 or P0.1 sets the pending bit while the pin is in an
input mode, and no other change of the pins does (no edge in output or A/D mode is a decision of
the spec, 92_eei_decisions.md D35, log 28; whether a disabled source becomes pending is the
parameter PEND_WHEN_DISABLED, log 22). -/
def Obligations.ExternalInterruptEdges : Prop :=
  ∀ (s : State) (p0 : BitVec 8) (p1 : BitVec 3) (p2 : BitVec 7), let t := changePins p0 p1 p2 s
    (t.ports.p0pnd.getLsbD 0 = true ↔ s.ports.p0pnd.getLsbD 0 = true ∨
      (s.pins.intPrev0 = true ∧ p0.getLsbD 0 = false ∧ s.ports.p0conl.getLsbD 1 = false ∧
        (s.cfg.pendWhenDisabled = true ∨ s.ports.p0pnd.getLsbD 1 = true))) ∧
    (t.ports.p0pnd.getLsbD 2 = true ↔ s.ports.p0pnd.getLsbD 2 = true ∨
      (s.pins.intPrev1 = true ∧ p0.getLsbD 1 = false ∧ s.ports.p0conl.getLsbD 3 = false ∧
        (s.cfg.pendWhenDisabled = true ∨ s.ports.p0pnd.getLsbD 3 = true))) ∧
    t.ports.p0pnd &&& 0xFA = s.ports.p0pnd &&& 0xFA ∧
    t.pins.intPrev0 = p0.getLsbD 0 ∧ t.pins.intPrev1 = p0.getLsbD 1 ∧
    t.mode = s.mode ∧ t.ram = s.ram ∧ t.pc = s.pc

/-- What ends IDLE and STOP (R242, R243): any request ends IDLE, only INT0 or INT1 with CLKCON.7 = 0
ends STOP, in both with GIE as well where WAKE_NEEDS_GIE (log 22); a wake-up changes the mode only,
from STOP into the oscillator wait with BTCNT as it is (log 36); without one the mode stays and in
STOP nothing moves; and the oscillator wait ends in RUN when BTCNT.4 rises (R322): under EXACT at
that very period, under FREE at it or later while BTCNT.4 is set (log 21). -/
def Obligations.PowerStateSteps : Prop :=
  ∀ (s : State) (n : Nat), resetRequest false s = none →
    let wait : StepInput := { powerOn := false, events := [.ticks n] }
    (s.mode = .idle →
      (s.irq = true ∧ (s.cfg.wakeNeedsGie = true → s.gie = true) →
        stepWith wait s = .next { s with mode := .run }) ∧
      (¬(s.irq = true ∧ (s.cfg.wakeNeedsGie = true → s.gie = true)) →
        stepWith wait s = .next (ticks n s))) ∧
    (s.mode = .stop →
      (s.clkcon.getLsbD 7 = false ∧ s.irqExt = true ∧
          (s.cfg.wakeNeedsGie = true → s.gie = true) →
        stepWith wait s =
          .next { s with mode := .resetWait, bt := { s.bt with stable := false } }) ∧
      (¬(s.clkcon.getLsbD 7 = false ∧ s.irqExt = true ∧
          (s.cfg.wakeNeedsGie = true → s.gie = true)) → stepWith wait s = .next s)) ∧
    (s.mode = .resetWait →
      ((ticks n s).bt.stable = false → stepWith wait s = .next (ticks n s)) ∧
      ∀ m, m < n → (ticks m s).bt.stable = false → (ticks (m + 1) s).bt.stable = true →
        (s.cfg.timeModel = .exact →
          stepWith wait s = .next { ticks (m + 1) s with mode := .run }) ∧
        (s.cfg.timeModel = .free → ∃ k, m + 1 ≤ k ∧ k ≤ n ∧
          stepWith wait s = .next { ticks k s with mode := .run } ∧
          (ticks k s).bt.cnt.getLsbD 4 = true))
end

