-- ==== Sys2Proof/Laws/Memory.lean ====
section
/-! SUPPORT. The laws of a memory: a read after a write, and the canonical form `Memory.wf`, which
every memory operation keeps and which the memories of `State.reset` have. -/

namespace Sys2Proof.Machine

/-- A list whose addresses all lie above `a` does not list `a`. -/
theorem cellRead_of_all_gt (dflt : Byte) {m : Memory} {a : Nat} (h : ∀ c ∈ m, a < c.1) :
    cellRead dflt m a = dflt := by
  induction m with
  | nil => rfl
  | cons c m ih =>
    have hc := h c (by simp)
    have hne : c.1 ≠ a := by omega
    obtain ⟨b, w⟩ := c
    simp only [cellRead, if_neg hne]
    exact ih fun x hx => h x (by simp [hx])

/-- Reading the address just written gives the byte written. -/
theorem cellRead_write_same (dflt : Byte) (m : Memory) (a : Nat) (v : Byte)
    (h : m.Pairwise (fun x y => x.1 < y.1)) : cellRead dflt (cellWrite dflt m a v) a = v := by
  induction m with
  | nil => by_cases hv : v = dflt <;> simp [cellWrite, cellRead, hv]
  | cons c m ih =>
    obtain ⟨b, w⟩ := c
    obtain ⟨hb, hm⟩ := List.pairwise_cons.mp h
    have hb' : ∀ c ∈ m, b < c.1 := hb
    simp only [cellWrite]
    split
    · rename_i hab
      split
      · rename_i hv
        subst hv
        exact cellRead_of_all_gt _ fun c hc => by
          rcases List.mem_cons.mp hc with rfl | hc
          · exact hab
          · have := hb' c hc; omega
      · simp [cellRead]
    · split
      · rename_i hab
        subst hab
        split
        · rename_i hv; subst hv; exact cellRead_of_all_gt _ hb'
        · simp [cellRead]
      · rename_i h1 h2
        have : b ≠ a := fun e => h2 e.symm
        simp only [cellRead, if_neg this]
        exact ih hm

/-- Reading another address gives what it gave before. -/
theorem cellRead_write_other (dflt : Byte) (m : Memory) {a x : Nat} (v : Byte) (hx : x ≠ a) :
    cellRead dflt (cellWrite dflt m a v) x = cellRead dflt m x := by
  have hax : a ≠ x := fun e => hx e.symm
  induction m with
  | nil => by_cases hv : v = dflt <;> simp [cellWrite, cellRead, hv, hax]
  | cons c m ih =>
    obtain ⟨b, w⟩ := c
    simp only [cellWrite]
    split
    · split <;> simp [cellRead, hax]
    · split
      · rename_i hab
        subst hab
        split <;> simp [cellRead, hax]
      · simp only [cellRead, ih]

/-- A write lists no address but the old ones and the one written. -/
theorem mem_cellWrite (dflt : Byte) {m : Memory} {a : Nat} {v : Byte} {c : Host.Cell}
    (h : c ∈ cellWrite dflt m a v) : c ∈ m ∨ (c = (a, v) ∧ v ≠ dflt) := by
  induction m with
  | nil =>
    by_cases hv : v = dflt
    · simp [cellWrite, hv] at h
    · simp only [cellWrite, if_neg hv, List.mem_singleton] at h
      exact .inr ⟨h, hv⟩
  | cons d m ih =>
    obtain ⟨b, w⟩ := d
    simp only [cellWrite] at h
    split at h
    · split at h
      · exact .inl h
      · rename_i hv
        rcases List.mem_cons.mp h with h | h
        · exact .inr ⟨h, hv⟩
        · exact .inl h
    · split at h
      · split at h
        · exact .inl (List.mem_cons_of_mem _ h)
        · rename_i hv
          rcases List.mem_cons.mp h with h | h
          · exact .inr ⟨h, hv⟩
          · exact .inl (List.mem_cons_of_mem _ h)
      · rcases List.mem_cons.mp h with h | h
        · exact .inl (by simp [h])
        · rcases ih h with h | h
          · exact .inl (List.mem_cons_of_mem _ h)
          · exact .inr h

/-- A write keeps the addresses strictly rising. -/
theorem pairwise_cellWrite (dflt : Byte) {m : Memory} (a : Nat) (v : Byte)
    (h : m.Pairwise (fun x y => x.1 < y.1)) :
    (cellWrite dflt m a v).Pairwise (fun x y => x.1 < y.1) := by
  induction m with
  | nil => by_cases hv : v = dflt <;> simp [cellWrite, hv]
  | cons d m ih =>
    obtain ⟨b, w⟩ := d
    obtain ⟨hb, hm⟩ := List.pairwise_cons.mp h
    have hb' : ∀ c ∈ m, b < c.1 := hb
    simp only [cellWrite]
    split
    · rename_i hab
      split
      · exact h
      · refine List.pairwise_cons.mpr ⟨fun c hc => ?_, h⟩
        rcases List.mem_cons.mp hc with rfl | hc
        · exact hab
        · have := hb' c hc; simp only; omega
    · split
      · rename_i hab
        subst hab
        split
        · exact hm
        · exact List.pairwise_cons.mpr ⟨hb, hm⟩
      · rename_i h1 h2
        refine List.pairwise_cons.mpr ⟨fun c hc => ?_, ih hm⟩
        rcases mem_cellWrite dflt hc with hc | ⟨hc, _⟩
        · exact hb c hc
        · subst hc; simp only; omega

/-- A write below the size keeps the canonical form. -/
theorem wf_cellWrite {dflt : Byte} {size : Nat} {m : Memory} {a : Nat} (v : Byte)
    (h : Memory.wf dflt size m) (ha : a < size) : Memory.wf dflt size (cellWrite dflt m a v) := by
  refine ⟨pairwise_cellWrite dflt a v h.1, fun c hc => ?_⟩
  rcases mem_cellWrite dflt hc with hc | ⟨hc, hv⟩
  · exact h.2 c hc
  · subst hc; exact ⟨ha, hv⟩

/-- A memory with nothing listed is canonical. -/
theorem wf_nil (dflt : Byte) (size : Nat) : Memory.wf dflt size [] := by
  exact ⟨List.Pairwise.nil, fun c hc => by simp at hc⟩

/-- A run of writes inside the size keeps the canonical form. -/
theorem wf_cellWriteList {dflt : Byte} {size : Nat} (vs : List Byte) :
    ∀ {m : Memory} {a : Nat}, Memory.wf dflt size m → a + vs.length ≤ size →
      Memory.wf dflt size (cellWriteList dflt m a vs) := by
  induction vs with
  | nil => intro m a h _; exact h
  | cons v vs ih =>
    intro m a h ha
    simp only [List.length_cons] at ha
    exact ih (wf_cellWrite v h (by omega)) (by omega)

/-- The bytes of a reset that loses the general-purpose registers are canonical. -/
theorem wf_freeRam (d n size : Nat) (h : n ≤ size) : Memory.wf ramDefault size (freeRam d n) := by
  induction n with
  | zero => exact wf_nil _ _
  | succ n ih => exact wf_cellWrite _ (ih (by omega)) (by omega)

/-- A byte of a reset that loses the general-purpose registers is the free value drawn for it. -/
theorem cellRead_freeRam (d n a : Nat) (h : a < n) :
    cellRead ramDefault (freeRam d n) a = Config.freeByte (d + a) := by
  induction n with
  | zero => omega
  | succ n ih =>
    by_cases ha : a = n
    · subst ha; exact cellRead_write_same _ _ _ _ (wf_freeRam d a a (le_refl _)).1
    · exact (cellRead_write_other _ _ _ ha).trans (ih (by omega))

/-- The memories after reset are canonical. -/
theorem reset_memoriesWf : State.reset.memoriesWf :=
  ⟨wf_nil _ _, wf_nil _ _, wf_nil _ _⟩

/-- Two canonical memories that read the same everywhere are equal. -/
theorem Memory.ext_of_wf {dflt : Byte} {size : Nat} {m m' : Memory} (h : Memory.wf dflt size m)
    (h' : Memory.wf dflt size m') (hr : ∀ a, cellRead dflt m a = cellRead dflt m' a) : m = m' := by
  induction m generalizing m' with
  | nil =>
    cases m' with
    | nil => rfl
    | cons c m' =>
      have := hr c.1
      obtain ⟨b, w⟩ := c
      simp only [cellRead, if_true] at this
      exact absurd this.symm (h'.2 (b, w) (by simp)).2
  | cons c m ih =>
    obtain ⟨b, w⟩ := c
    obtain ⟨hb, hm⟩ := List.pairwise_cons.mp h.1
    cases m' with
    | nil =>
      have := hr b
      simp only [cellRead, if_true] at this
      exact absurd this (h.2 (b, w) (by simp)).2
    | cons c' m' =>
      obtain ⟨b', w'⟩ := c'
      obtain ⟨hb', hm'⟩ := List.pairwise_cons.mp h'.1
      have hbb : b = b' := by
        rcases Nat.lt_trichotomy b b' with hlt | heq | hgt
        · have := hr b
          rw [cellRead_of_all_gt dflt (m := (b', w') :: m') (a := b)] at this
          · simp only [cellRead, if_true] at this
            exact absurd this (h.2 (b, w) (by simp)).2
          · intro c hc
            rcases List.mem_cons.mp hc with rfl | hc
            · exact hlt
            · have : b' < c.1 := hb' c hc
              omega
        · exact heq
        · have := hr b'
          rw [cellRead_of_all_gt dflt (m := (b, w) :: m) (a := b')] at this
          · simp only [cellRead, if_true] at this
            exact absurd this.symm (h'.2 (b', w') (by simp)).2
          · intro c hc
            rcases List.mem_cons.mp hc with rfl | hc
            · exact hgt
            · have : b < c.1 := hb c hc
              omega
      subst hbb
      have hww : w = w' := by simpa [cellRead] using hr b
      subst hww
      have : m = m' := by
        refine ih ⟨hm, fun c hc => h.2 c (by simp [hc])⟩
          ⟨hm', fun c hc => h'.2 c (by simp [hc])⟩ fun a => ?_
        by_cases ha : b = a
        · subst ha
          rw [cellRead_of_all_gt dflt hb, cellRead_of_all_gt dflt hb']
        · simpa [cellRead, ha] using hr a
      rw [this]

end Sys2Proof.Machine
end

