-- ==== Sys2Proof/Laws/State.lean ====
section
/-! SUPPORT. One lemma per field per named update of the state, true by `rfl`. -/

namespace Sys2Proof.Machine

/-! ### `advance` -/

@[simp] theorem advance_ram (n : Nat) (s : State) : (s.advance n).ram = s.ram := rfl
@[simp] theorem advance_prog (n : Nat) (s : State) : (s.advance n).prog = s.prog := rfl
@[simp] theorem advance_data (n : Nat) (s : State) : (s.advance n).data = s.data := rfl
@[simp] theorem advance_pc (n : Nat) (s : State) : (s.advance n).pc = s.npc n := rfl
@[simp] theorem advance_flags (n : Nat) (s : State) : (s.advance n).flags = s.flags := rfl
@[simp] theorem advance_sp (n : Nat) (s : State) : (s.advance n).sp = s.sp := rfl
@[simp] theorem advance_sym (n : Nat) (s : State) : (s.advance n).sym = s.sym := rfl
@[simp] theorem advance_mode (n : Nat) (s : State) : (s.advance n).mode = s.mode := rfl
@[simp] theorem advance_clkcon (n : Nat) (s : State) : (s.advance n).clkcon = s.clkcon := rfl
@[simp] theorem advance_stopcon (n : Nat) (s : State) : (s.advance n).stopcon = s.stopcon := rfl
@[simp] theorem advance_mdsreg (n : Nat) (s : State) : (s.advance n).mdsreg = s.mdsreg := rfl
@[simp] theorem advance_ftstcon (n : Nat) (s : State) : (s.advance n).ftstcon = s.ftstcon := rfl
@[simp] theorem advance_div (n : Nat) (s : State) : (s.advance n).div = s.div := rfl
@[simp] theorem advance_clo (n : Nat) (s : State) : (s.advance n).clo = s.clo := rfl
@[simp] theorem advance_t0 (n : Nat) (s : State) : (s.advance n).t0 = s.t0 := rfl
@[simp] theorem advance_bt (n : Nat) (s : State) : (s.advance n).bt = s.bt := rfl
@[simp] theorem advance_pwm (n : Nat) (s : State) : (s.advance n).pwm = s.pwm := rfl
@[simp] theorem advance_adc (n : Nat) (s : State) : (s.advance n).adc = s.adc := rfl
@[simp] theorem advance_ports (n : Nat) (s : State) : (s.advance n).ports = s.ports := rfl
@[simp] theorem advance_pins (n : Nat) (s : State) : (s.advance n).pins = s.pins := rfl
@[simp] theorem advance_cfg (n : Nat) (s : State) : (s.advance n).cfg = s.cfg := rfl
@[simp] theorem advance_inputs (n : Nat) (s : State) : (s.advance n).inputs = s.inputs := rfl
@[simp] theorem advance_draws (n : Nat) (s : State) : (s.advance n).draws = s.draws := rfl

/-! ### `goto` -/

@[simp] theorem goto_ram (t : Word) (s : State) : (s.goto t).ram = s.ram := rfl
@[simp] theorem goto_prog (t : Word) (s : State) : (s.goto t).prog = s.prog := rfl
@[simp] theorem goto_data (t : Word) (s : State) : (s.goto t).data = s.data := rfl
@[simp] theorem goto_pc (t : Word) (s : State) : (s.goto t).pc = t := rfl
@[simp] theorem goto_flags (t : Word) (s : State) : (s.goto t).flags = s.flags := rfl
@[simp] theorem goto_sp (t : Word) (s : State) : (s.goto t).sp = s.sp := rfl
@[simp] theorem goto_sym (t : Word) (s : State) : (s.goto t).sym = s.sym := rfl
@[simp] theorem goto_mode (t : Word) (s : State) : (s.goto t).mode = s.mode := rfl
@[simp] theorem goto_clkcon (t : Word) (s : State) : (s.goto t).clkcon = s.clkcon := rfl
@[simp] theorem goto_stopcon (t : Word) (s : State) : (s.goto t).stopcon = s.stopcon := rfl
@[simp] theorem goto_mdsreg (t : Word) (s : State) : (s.goto t).mdsreg = s.mdsreg := rfl
@[simp] theorem goto_ftstcon (t : Word) (s : State) : (s.goto t).ftstcon = s.ftstcon := rfl
@[simp] theorem goto_div (t : Word) (s : State) : (s.goto t).div = s.div := rfl
@[simp] theorem goto_clo (t : Word) (s : State) : (s.goto t).clo = s.clo := rfl
@[simp] theorem goto_t0 (t : Word) (s : State) : (s.goto t).t0 = s.t0 := rfl
@[simp] theorem goto_bt (t : Word) (s : State) : (s.goto t).bt = s.bt := rfl
@[simp] theorem goto_pwm (t : Word) (s : State) : (s.goto t).pwm = s.pwm := rfl
@[simp] theorem goto_adc (t : Word) (s : State) : (s.goto t).adc = s.adc := rfl
@[simp] theorem goto_ports (t : Word) (s : State) : (s.goto t).ports = s.ports := rfl
@[simp] theorem goto_pins (t : Word) (s : State) : (s.goto t).pins = s.pins := rfl
@[simp] theorem goto_cfg (t : Word) (s : State) : (s.goto t).cfg = s.cfg := rfl
@[simp] theorem goto_inputs (t : Word) (s : State) : (s.goto t).inputs = s.inputs := rfl
@[simp] theorem goto_draws (t : Word) (s : State) : (s.goto t).draws = s.draws := rfl

/-! ### `setFlags` -/

@[simp] theorem setFlags_ram (f : Czsv) (s : State) : (s.setFlags f).ram = s.ram := rfl
@[simp] theorem setFlags_prog (f : Czsv) (s : State) : (s.setFlags f).prog = s.prog := rfl
@[simp] theorem setFlags_data (f : Czsv) (s : State) : (s.setFlags f).data = s.data := rfl
@[simp] theorem setFlags_pc (f : Czsv) (s : State) : (s.setFlags f).pc = s.pc := rfl
@[simp] theorem setFlags_flags (f : Czsv) (s : State) :
    (s.setFlags f).flags =
      mixBits 0xF0 f.toByte s.flags := rfl
@[simp] theorem setFlags_sp (f : Czsv) (s : State) : (s.setFlags f).sp = s.sp := rfl
@[simp] theorem setFlags_sym (f : Czsv) (s : State) : (s.setFlags f).sym = s.sym := rfl
@[simp] theorem setFlags_mode (f : Czsv) (s : State) : (s.setFlags f).mode = s.mode := rfl
@[simp] theorem setFlags_clkcon (f : Czsv) (s : State) : (s.setFlags f).clkcon = s.clkcon := rfl
@[simp] theorem setFlags_stopcon (f : Czsv) (s : State) : (s.setFlags f).stopcon = s.stopcon := rfl
@[simp] theorem setFlags_mdsreg (f : Czsv) (s : State) : (s.setFlags f).mdsreg = s.mdsreg := rfl
@[simp] theorem setFlags_ftstcon (f : Czsv) (s : State) : (s.setFlags f).ftstcon = s.ftstcon := rfl
@[simp] theorem setFlags_div (f : Czsv) (s : State) : (s.setFlags f).div = s.div := rfl
@[simp] theorem setFlags_clo (f : Czsv) (s : State) : (s.setFlags f).clo = s.clo := rfl
@[simp] theorem setFlags_t0 (f : Czsv) (s : State) : (s.setFlags f).t0 = s.t0 := rfl
@[simp] theorem setFlags_bt (f : Czsv) (s : State) : (s.setFlags f).bt = s.bt := rfl
@[simp] theorem setFlags_pwm (f : Czsv) (s : State) : (s.setFlags f).pwm = s.pwm := rfl
@[simp] theorem setFlags_adc (f : Czsv) (s : State) : (s.setFlags f).adc = s.adc := rfl
@[simp] theorem setFlags_ports (f : Czsv) (s : State) : (s.setFlags f).ports = s.ports := rfl
@[simp] theorem setFlags_pins (f : Czsv) (s : State) : (s.setFlags f).pins = s.pins := rfl
@[simp] theorem setFlags_cfg (f : Czsv) (s : State) : (s.setFlags f).cfg = s.cfg := rfl
@[simp] theorem setFlags_inputs (f : Czsv) (s : State) : (s.setFlags f).inputs = s.inputs := rfl
@[simp] theorem setFlags_draws (f : Czsv) (s : State) : (s.setFlags f).draws = s.draws := rfl

/-! ### `freeFlags` -/

@[simp] theorem freeFlags_ram (s : State) : s.freeFlags.ram = s.ram := rfl
@[simp] theorem freeFlags_prog (s : State) : s.freeFlags.prog = s.prog := rfl
@[simp] theorem freeFlags_data (s : State) : s.freeFlags.data = s.data := rfl
@[simp] theorem freeFlags_pc (s : State) : s.freeFlags.pc = s.pc := rfl
@[simp] theorem freeFlags_flags (s : State) :
    s.freeFlags.flags =
      mixBits 0xF0 (Config.freeByte s.draws) s.flags := rfl
@[simp] theorem freeFlags_sp (s : State) : s.freeFlags.sp = s.sp := rfl
@[simp] theorem freeFlags_sym (s : State) : s.freeFlags.sym = s.sym := rfl
@[simp] theorem freeFlags_mode (s : State) : s.freeFlags.mode = s.mode := rfl
@[simp] theorem freeFlags_clkcon (s : State) : s.freeFlags.clkcon = s.clkcon := rfl
@[simp] theorem freeFlags_stopcon (s : State) : s.freeFlags.stopcon = s.stopcon := rfl
@[simp] theorem freeFlags_mdsreg (s : State) : s.freeFlags.mdsreg = s.mdsreg := rfl
@[simp] theorem freeFlags_ftstcon (s : State) : s.freeFlags.ftstcon = s.ftstcon := rfl
@[simp] theorem freeFlags_div (s : State) : s.freeFlags.div = s.div := rfl
@[simp] theorem freeFlags_clo (s : State) : s.freeFlags.clo = s.clo := rfl
@[simp] theorem freeFlags_t0 (s : State) : s.freeFlags.t0 = s.t0 := rfl
@[simp] theorem freeFlags_bt (s : State) : s.freeFlags.bt = s.bt := rfl
@[simp] theorem freeFlags_pwm (s : State) : s.freeFlags.pwm = s.pwm := rfl
@[simp] theorem freeFlags_adc (s : State) : s.freeFlags.adc = s.adc := rfl
@[simp] theorem freeFlags_ports (s : State) : s.freeFlags.ports = s.ports := rfl
@[simp] theorem freeFlags_pins (s : State) : s.freeFlags.pins = s.pins := rfl
@[simp] theorem freeFlags_cfg (s : State) : s.freeFlags.cfg = s.cfg := rfl
@[simp] theorem freeFlags_inputs (s : State) : s.freeFlags.inputs = s.inputs := rfl
@[simp] theorem freeFlags_draws (s : State) : s.freeFlags.draws = s.draws + 1 := rfl

/-! ### `setGie` -/

@[simp] theorem setGie_ram (b : Bool) (s : State) : (s.setGie b).ram = s.ram := rfl
@[simp] theorem setGie_prog (b : Bool) (s : State) : (s.setGie b).prog = s.prog := rfl
@[simp] theorem setGie_data (b : Bool) (s : State) : (s.setGie b).data = s.data := rfl
@[simp] theorem setGie_pc (b : Bool) (s : State) : (s.setGie b).pc = s.pc := rfl
@[simp] theorem setGie_flags (b : Bool) (s : State) : (s.setGie b).flags = s.flags := rfl
@[simp] theorem setGie_sp (b : Bool) (s : State) : (s.setGie b).sp = s.sp := rfl
@[simp] theorem setGie_sym (b : Bool) (s : State) :
    (s.setGie b).sym =
      if b then s.sym ||| BitVec.twoPow 8 Config.gieBit else s.sym &&& ~~~(BitVec.twoPow 8 Config.gieBit) := rfl
@[simp] theorem setGie_mode (b : Bool) (s : State) : (s.setGie b).mode = s.mode := rfl
@[simp] theorem setGie_clkcon (b : Bool) (s : State) : (s.setGie b).clkcon = s.clkcon := rfl
@[simp] theorem setGie_stopcon (b : Bool) (s : State) : (s.setGie b).stopcon = s.stopcon := rfl
@[simp] theorem setGie_mdsreg (b : Bool) (s : State) : (s.setGie b).mdsreg = s.mdsreg := rfl
@[simp] theorem setGie_ftstcon (b : Bool) (s : State) : (s.setGie b).ftstcon = s.ftstcon := rfl
@[simp] theorem setGie_div (b : Bool) (s : State) : (s.setGie b).div = s.div := rfl
@[simp] theorem setGie_clo (b : Bool) (s : State) : (s.setGie b).clo = s.clo := rfl
@[simp] theorem setGie_t0 (b : Bool) (s : State) : (s.setGie b).t0 = s.t0 := rfl
@[simp] theorem setGie_bt (b : Bool) (s : State) : (s.setGie b).bt = s.bt := rfl
@[simp] theorem setGie_pwm (b : Bool) (s : State) : (s.setGie b).pwm = s.pwm := rfl
@[simp] theorem setGie_adc (b : Bool) (s : State) : (s.setGie b).adc = s.adc := rfl
@[simp] theorem setGie_ports (b : Bool) (s : State) : (s.setGie b).ports = s.ports := rfl
@[simp] theorem setGie_pins (b : Bool) (s : State) : (s.setGie b).pins = s.pins := rfl
@[simp] theorem setGie_cfg (b : Bool) (s : State) : (s.setGie b).cfg = s.cfg := rfl
@[simp] theorem setGie_inputs (b : Bool) (s : State) : (s.setGie b).inputs = s.inputs := rfl
@[simp] theorem setGie_draws (b : Bool) (s : State) : (s.setGie b).draws = s.draws := rfl

/-! ### `setRam` -/

@[simp] theorem setRam_ram (m : Memory) (s : State) : (s.setRam m).ram = m := rfl
@[simp] theorem setRam_prog (m : Memory) (s : State) : (s.setRam m).prog = s.prog := rfl
@[simp] theorem setRam_data (m : Memory) (s : State) : (s.setRam m).data = s.data := rfl
@[simp] theorem setRam_pc (m : Memory) (s : State) : (s.setRam m).pc = s.pc := rfl
@[simp] theorem setRam_flags (m : Memory) (s : State) : (s.setRam m).flags = s.flags := rfl
@[simp] theorem setRam_sp (m : Memory) (s : State) : (s.setRam m).sp = s.sp := rfl
@[simp] theorem setRam_sym (m : Memory) (s : State) : (s.setRam m).sym = s.sym := rfl
@[simp] theorem setRam_mode (m : Memory) (s : State) : (s.setRam m).mode = s.mode := rfl
@[simp] theorem setRam_clkcon (m : Memory) (s : State) : (s.setRam m).clkcon = s.clkcon := rfl
@[simp] theorem setRam_stopcon (m : Memory) (s : State) : (s.setRam m).stopcon = s.stopcon := rfl
@[simp] theorem setRam_mdsreg (m : Memory) (s : State) : (s.setRam m).mdsreg = s.mdsreg := rfl
@[simp] theorem setRam_ftstcon (m : Memory) (s : State) : (s.setRam m).ftstcon = s.ftstcon := rfl
@[simp] theorem setRam_div (m : Memory) (s : State) : (s.setRam m).div = s.div := rfl
@[simp] theorem setRam_clo (m : Memory) (s : State) : (s.setRam m).clo = s.clo := rfl
@[simp] theorem setRam_t0 (m : Memory) (s : State) : (s.setRam m).t0 = s.t0 := rfl
@[simp] theorem setRam_bt (m : Memory) (s : State) : (s.setRam m).bt = s.bt := rfl
@[simp] theorem setRam_pwm (m : Memory) (s : State) : (s.setRam m).pwm = s.pwm := rfl
@[simp] theorem setRam_adc (m : Memory) (s : State) : (s.setRam m).adc = s.adc := rfl
@[simp] theorem setRam_ports (m : Memory) (s : State) : (s.setRam m).ports = s.ports := rfl
@[simp] theorem setRam_pins (m : Memory) (s : State) : (s.setRam m).pins = s.pins := rfl
@[simp] theorem setRam_cfg (m : Memory) (s : State) : (s.setRam m).cfg = s.cfg := rfl
@[simp] theorem setRam_inputs (m : Memory) (s : State) : (s.setRam m).inputs = s.inputs := rfl
@[simp] theorem setRam_draws (m : Memory) (s : State) : (s.setRam m).draws = s.draws := rfl

/-! ### `setSp` -/

@[simp] theorem setSp_ram (v : Byte) (s : State) : (s.setSp v).ram = s.ram := rfl
@[simp] theorem setSp_prog (v : Byte) (s : State) : (s.setSp v).prog = s.prog := rfl
@[simp] theorem setSp_data (v : Byte) (s : State) : (s.setSp v).data = s.data := rfl
@[simp] theorem setSp_pc (v : Byte) (s : State) : (s.setSp v).pc = s.pc := rfl
@[simp] theorem setSp_flags (v : Byte) (s : State) : (s.setSp v).flags = s.flags := rfl
@[simp] theorem setSp_sp (v : Byte) (s : State) : (s.setSp v).sp = v := rfl
@[simp] theorem setSp_sym (v : Byte) (s : State) : (s.setSp v).sym = s.sym := rfl
@[simp] theorem setSp_mode (v : Byte) (s : State) : (s.setSp v).mode = s.mode := rfl
@[simp] theorem setSp_clkcon (v : Byte) (s : State) : (s.setSp v).clkcon = s.clkcon := rfl
@[simp] theorem setSp_stopcon (v : Byte) (s : State) : (s.setSp v).stopcon = s.stopcon := rfl
@[simp] theorem setSp_mdsreg (v : Byte) (s : State) : (s.setSp v).mdsreg = s.mdsreg := rfl
@[simp] theorem setSp_ftstcon (v : Byte) (s : State) : (s.setSp v).ftstcon = s.ftstcon := rfl
@[simp] theorem setSp_div (v : Byte) (s : State) : (s.setSp v).div = s.div := rfl
@[simp] theorem setSp_clo (v : Byte) (s : State) : (s.setSp v).clo = s.clo := rfl
@[simp] theorem setSp_t0 (v : Byte) (s : State) : (s.setSp v).t0 = s.t0 := rfl
@[simp] theorem setSp_bt (v : Byte) (s : State) : (s.setSp v).bt = s.bt := rfl
@[simp] theorem setSp_pwm (v : Byte) (s : State) : (s.setSp v).pwm = s.pwm := rfl
@[simp] theorem setSp_adc (v : Byte) (s : State) : (s.setSp v).adc = s.adc := rfl
@[simp] theorem setSp_ports (v : Byte) (s : State) : (s.setSp v).ports = s.ports := rfl
@[simp] theorem setSp_pins (v : Byte) (s : State) : (s.setSp v).pins = s.pins := rfl
@[simp] theorem setSp_cfg (v : Byte) (s : State) : (s.setSp v).cfg = s.cfg := rfl
@[simp] theorem setSp_inputs (v : Byte) (s : State) : (s.setSp v).inputs = s.inputs := rfl
@[simp] theorem setSp_draws (v : Byte) (s : State) : (s.setSp v).draws = s.draws := rfl

/-! ### `setMode` -/

@[simp] theorem setMode_ram (m : Mode) (s : State) : (s.setMode m).ram = s.ram := rfl
@[simp] theorem setMode_prog (m : Mode) (s : State) : (s.setMode m).prog = s.prog := rfl
@[simp] theorem setMode_data (m : Mode) (s : State) : (s.setMode m).data = s.data := rfl
@[simp] theorem setMode_pc (m : Mode) (s : State) : (s.setMode m).pc = s.pc := rfl
@[simp] theorem setMode_flags (m : Mode) (s : State) : (s.setMode m).flags = s.flags := rfl
@[simp] theorem setMode_sp (m : Mode) (s : State) : (s.setMode m).sp = s.sp := rfl
@[simp] theorem setMode_sym (m : Mode) (s : State) : (s.setMode m).sym = s.sym := rfl
@[simp] theorem setMode_mode (m : Mode) (s : State) : (s.setMode m).mode = m := rfl
@[simp] theorem setMode_clkcon (m : Mode) (s : State) : (s.setMode m).clkcon = s.clkcon := rfl
@[simp] theorem setMode_stopcon (m : Mode) (s : State) : (s.setMode m).stopcon = s.stopcon := rfl
@[simp] theorem setMode_mdsreg (m : Mode) (s : State) : (s.setMode m).mdsreg = s.mdsreg := rfl
@[simp] theorem setMode_ftstcon (m : Mode) (s : State) : (s.setMode m).ftstcon = s.ftstcon := rfl
@[simp] theorem setMode_div (m : Mode) (s : State) : (s.setMode m).div = s.div := rfl
@[simp] theorem setMode_clo (m : Mode) (s : State) : (s.setMode m).clo = s.clo := rfl
@[simp] theorem setMode_t0 (m : Mode) (s : State) : (s.setMode m).t0 = s.t0 := rfl
@[simp] theorem setMode_bt (m : Mode) (s : State) : (s.setMode m).bt = s.bt := rfl
@[simp] theorem setMode_pwm (m : Mode) (s : State) : (s.setMode m).pwm = s.pwm := rfl
@[simp] theorem setMode_adc (m : Mode) (s : State) : (s.setMode m).adc = s.adc := rfl
@[simp] theorem setMode_ports (m : Mode) (s : State) : (s.setMode m).ports = s.ports := rfl
@[simp] theorem setMode_pins (m : Mode) (s : State) : (s.setMode m).pins = s.pins := rfl
@[simp] theorem setMode_cfg (m : Mode) (s : State) : (s.setMode m).cfg = s.cfg := rfl
@[simp] theorem setMode_inputs (m : Mode) (s : State) : (s.setMode m).inputs = s.inputs := rfl
@[simp] theorem setMode_draws (m : Mode) (s : State) : (s.setMode m).draws = s.draws := rfl

/-! ### `drawn` -/

@[simp] theorem drawn_ram (s : State) : s.drawn.ram = s.ram := rfl
@[simp] theorem drawn_prog (s : State) : s.drawn.prog = s.prog := rfl
@[simp] theorem drawn_data (s : State) : s.drawn.data = s.data := rfl
@[simp] theorem drawn_pc (s : State) : s.drawn.pc = s.pc := rfl
@[simp] theorem drawn_flags (s : State) : s.drawn.flags = s.flags := rfl
@[simp] theorem drawn_sp (s : State) : s.drawn.sp = s.sp := rfl
@[simp] theorem drawn_sym (s : State) : s.drawn.sym = s.sym := rfl
@[simp] theorem drawn_mode (s : State) : s.drawn.mode = s.mode := rfl
@[simp] theorem drawn_clkcon (s : State) : s.drawn.clkcon = s.clkcon := rfl
@[simp] theorem drawn_stopcon (s : State) : s.drawn.stopcon = s.stopcon := rfl
@[simp] theorem drawn_mdsreg (s : State) : s.drawn.mdsreg = s.mdsreg := rfl
@[simp] theorem drawn_ftstcon (s : State) : s.drawn.ftstcon = s.ftstcon := rfl
@[simp] theorem drawn_div (s : State) : s.drawn.div = s.div := rfl
@[simp] theorem drawn_clo (s : State) : s.drawn.clo = s.clo := rfl
@[simp] theorem drawn_t0 (s : State) : s.drawn.t0 = s.t0 := rfl
@[simp] theorem drawn_bt (s : State) : s.drawn.bt = s.bt := rfl
@[simp] theorem drawn_pwm (s : State) : s.drawn.pwm = s.pwm := rfl
@[simp] theorem drawn_adc (s : State) : s.drawn.adc = s.adc := rfl
@[simp] theorem drawn_ports (s : State) : s.drawn.ports = s.ports := rfl
@[simp] theorem drawn_pins (s : State) : s.drawn.pins = s.pins := rfl
@[simp] theorem drawn_cfg (s : State) : s.drawn.cfg = s.cfg := rfl
@[simp] theorem drawn_inputs (s : State) : s.drawn.inputs = s.inputs := rfl
@[simp] theorem drawn_draws (s : State) : s.drawn.draws = s.draws + 1 := rfl

/-! ### `dropInput` -/

@[simp] theorem dropInput_ram (s : State) : s.dropInput.ram = s.ram := rfl
@[simp] theorem dropInput_prog (s : State) : s.dropInput.prog = s.prog := rfl
@[simp] theorem dropInput_data (s : State) : s.dropInput.data = s.data := rfl
@[simp] theorem dropInput_pc (s : State) : s.dropInput.pc = s.pc := rfl
@[simp] theorem dropInput_flags (s : State) : s.dropInput.flags = s.flags := rfl
@[simp] theorem dropInput_sp (s : State) : s.dropInput.sp = s.sp := rfl
@[simp] theorem dropInput_sym (s : State) : s.dropInput.sym = s.sym := rfl
@[simp] theorem dropInput_mode (s : State) : s.dropInput.mode = s.mode := rfl
@[simp] theorem dropInput_clkcon (s : State) : s.dropInput.clkcon = s.clkcon := rfl
@[simp] theorem dropInput_stopcon (s : State) : s.dropInput.stopcon = s.stopcon := rfl
@[simp] theorem dropInput_mdsreg (s : State) : s.dropInput.mdsreg = s.mdsreg := rfl
@[simp] theorem dropInput_ftstcon (s : State) : s.dropInput.ftstcon = s.ftstcon := rfl
@[simp] theorem dropInput_div (s : State) : s.dropInput.div = s.div := rfl
@[simp] theorem dropInput_clo (s : State) : s.dropInput.clo = s.clo := rfl
@[simp] theorem dropInput_t0 (s : State) : s.dropInput.t0 = s.t0 := rfl
@[simp] theorem dropInput_bt (s : State) : s.dropInput.bt = s.bt := rfl
@[simp] theorem dropInput_pwm (s : State) : s.dropInput.pwm = s.pwm := rfl
@[simp] theorem dropInput_adc (s : State) : s.dropInput.adc = s.adc := rfl
@[simp] theorem dropInput_ports (s : State) : s.dropInput.ports = s.ports := rfl
@[simp] theorem dropInput_pins (s : State) : s.dropInput.pins = s.pins := rfl
@[simp] theorem dropInput_cfg (s : State) : s.dropInput.cfg = s.cfg := rfl
@[simp] theorem dropInput_inputs (s : State) : s.dropInput.inputs = s.inputs.tail := rfl
@[simp] theorem dropInput_draws (s : State) : s.dropInput.draws = s.draws := rfl

end Sys2Proof.Machine
end

