-- ==== Sys2Proof/Laws/Registers.lean ====
section
/-! SUPPORT. The laws of the register file: what a read leaves, what a write leaves, one lemma for
each register of `storeReg`, and when a write is refused. -/

namespace Sys2Proof.Machine

/-! ### Reads: nothing but free values drawn -/

/-- The state with `k` more free values drawn. -/
def State.drawMore (k : Nat) (s : State) : State := { s with draws := s.draws + k }

@[simp] theorem drawMore_ram (k : Nat) (s : State) : (s.drawMore k).ram = s.ram := rfl
@[simp] theorem drawMore_prog (k : Nat) (s : State) : (s.drawMore k).prog = s.prog := rfl
@[simp] theorem drawMore_data (k : Nat) (s : State) : (s.drawMore k).data = s.data := rfl
@[simp] theorem drawMore_pc (k : Nat) (s : State) : (s.drawMore k).pc = s.pc := rfl
@[simp] theorem drawMore_flags (k : Nat) (s : State) : (s.drawMore k).flags = s.flags := rfl
@[simp] theorem drawMore_sp (k : Nat) (s : State) : (s.drawMore k).sp = s.sp := rfl
@[simp] theorem drawMore_sym (k : Nat) (s : State) : (s.drawMore k).sym = s.sym := rfl
@[simp] theorem drawMore_mode (k : Nat) (s : State) : (s.drawMore k).mode = s.mode := rfl
@[simp] theorem drawMore_clkcon (k : Nat) (s : State) : (s.drawMore k).clkcon = s.clkcon := rfl
@[simp] theorem drawMore_stopcon (k : Nat) (s : State) : (s.drawMore k).stopcon = s.stopcon := rfl
@[simp] theorem drawMore_mdsreg (k : Nat) (s : State) : (s.drawMore k).mdsreg = s.mdsreg := rfl
@[simp] theorem drawMore_ftstcon (k : Nat) (s : State) : (s.drawMore k).ftstcon = s.ftstcon := rfl
@[simp] theorem drawMore_div (k : Nat) (s : State) : (s.drawMore k).div = s.div := rfl
@[simp] theorem drawMore_clo (k : Nat) (s : State) : (s.drawMore k).clo = s.clo := rfl
@[simp] theorem drawMore_t0 (k : Nat) (s : State) : (s.drawMore k).t0 = s.t0 := rfl
@[simp] theorem drawMore_bt (k : Nat) (s : State) : (s.drawMore k).bt = s.bt := rfl
@[simp] theorem drawMore_pwm (k : Nat) (s : State) : (s.drawMore k).pwm = s.pwm := rfl
@[simp] theorem drawMore_adc (k : Nat) (s : State) : (s.drawMore k).adc = s.adc := rfl
@[simp] theorem drawMore_ports (k : Nat) (s : State) : (s.drawMore k).ports = s.ports := rfl
@[simp] theorem drawMore_pins (k : Nat) (s : State) : (s.drawMore k).pins = s.pins := rfl
@[simp] theorem drawMore_cfg (k : Nat) (s : State) : (s.drawMore k).cfg = s.cfg := rfl
@[simp] theorem drawMore_inputs (k : Nat) (s : State) : (s.drawMore k).inputs = s.inputs := rfl
@[simp] theorem drawMore_draws (k : Nat) (s : State) : (s.drawMore k).draws = s.draws + k := rfl

@[simp] theorem drawMore_zero (s : State) : s.drawMore 0 = s := rfl

@[simp] theorem drawMore_drawMore (j k : Nat) (s : State) :
    (s.drawMore j).drawMore k = s.drawMore (j + k) := by
  simp [State.drawMore, Nat.add_assoc]

theorem drawn_eq (s : State) : s.drawn = s.drawMore 1 := rfl

/-- How many free values a read of `a` draws. -/
def readDraws (a : Byte) (s : State) : Nat := if freeMask a s = 0 then 0 else 1

/-- Everything a read can do to the state: draw a free value. -/
theorem afterRead_eq (a : Byte) (s : State) : afterRead a s = s.drawMore (readDraws a s) := by
  unfold afterRead readDraws
  split <;> rfl

@[simp] theorem readReg_fst (a : Byte) (s : State) : (readReg a s).1 = peek a s := rfl

@[simp] theorem readReg_snd (a : Byte) (s : State) :
    (readReg a s).2 = s.drawMore (readDraws a s) := afterRead_eq a s

@[simp] theorem storedByte_drawMore (a : Byte) (k : Nat) (s : State) :
    storedByte a (s.drawMore k) = storedByte a s := rfl

@[simp] theorem freeMask_drawMore (a : Byte) (k : Nat) (s : State) :
    freeMask a (s.drawMore k) = freeMask a s := rfl

/-- A byte with no free bits reads as it is stored. -/
theorem peek_eq_storedByte {a : Byte} {s : State} (h : freeMask a s = 0) :
    peek a s = storedByte a s := by
  simp [peek, h]

/-- Below D0H there are no free bits. -/
theorem regAt_ram {a : Byte} (h : a.toNat < 0xD0) : regAt a = .ram := by
  simp [regAt, ramSize, h]

/-- Only the addresses below D0H are plain storage. -/
theorem lt_of_regAt_ram {a : Byte} (h : regAt a = .ram) : a.toNat < 0xD0 := by
  revert a; decide

theorem freeMask_ram {a : Byte} (h : a.toNat < 0xD0) (s : State) : freeMask a s = 0 := by
  simp [freeMask, regAt_ram h]

theorem peek_ram {a : Byte} (h : a.toNat < 0xD0) (s : State) :
    peek a s = cellRead ramDefault s.ram a.toNat := by
  rw [peek_eq_storedByte (freeMask_ram h s)]
  simp [storedByte, regAt_ram h]

theorem readDraws_ram {a : Byte} (h : a.toNat < 0xD0) (s : State) : readDraws a s = 0 := by
  simp [readDraws, freeMask_ram h]

theorem wr_toNat (n : WReg) : (wr n).toNat = 0xC0 + n.toNat := by
  revert n; decide

theorem wr_lt (n : WReg) : (wr n).toNat < 0xD0 := by
  revert n; decide

theorem pairReg_odd_lt (p : Pair) : (wr (pairReg p) + 1).toNat < 0xD0 := by
  revert p; decide

theorem writeRefusal_ram {a : Byte} (h : a.toNat < 0xD0) (v : Byte) : writeRefusal a v = none := by
  simp [writeRefusal, regAt_ram h]

@[simp] theorem writeRefusal_wr (n : WReg) (v : Byte) : writeRefusal (wr n) v = none :=
  writeRefusal_ram (wr_lt n) v

/-! ### Writes -/

/-- Everything a register write can do. -/
theorem writeReg_eq_next {a v : Byte} {s t : State} :
    writeReg a v s = .next t ↔ writeRefusal a v = none ∧ t = storeReg a v s := by
  unfold writeReg
  split
  · rename_i h; simp [h]
  · rename_i h; simp [h, eq_comm]

theorem writeReg_eq_refused {a v : Byte} {s : State} {r : Refusal} :
    writeReg a v s = .refused r ↔ writeRefusal a v = some r := by
  unfold writeReg
  split
  · rename_i h; simp [h]
  · rename_i h; simp [h]

theorem writeReg_ne_fault {a v : Byte} {s : State} {r : Fault} : writeReg a v s ≠ .fault r := by
  unfold writeReg
  split <;> simp

theorem storeReg_ram {a : Byte} (h : a.toNat < 0xD0) (v : Byte) (s : State) :
    storeReg a v s = s.setRam (cellWrite ramDefault s.ram a.toNat v) := by
  simp [storeReg, regAt_ram h]

@[simp] theorem storeReg_pc (a v : Byte) (s : State) : (storeReg a v s).pc = s.pc := by
  unfold storeReg; split <;> rfl

@[simp] theorem storeReg_prog (a v : Byte) (s : State) : (storeReg a v s).prog = s.prog := by
  unfold storeReg; split <;> rfl

@[simp] theorem storeReg_data (a v : Byte) (s : State) : (storeReg a v s).data = s.data := by
  unfold storeReg; split <;> rfl

@[simp] theorem storeReg_mode (a v : Byte) (s : State) : (storeReg a v s).mode = s.mode := by
  unfold storeReg; split <;> rfl

@[simp] theorem storeReg_pins (a v : Byte) (s : State) : (storeReg a v s).pins = s.pins := by
  unfold storeReg; split <;> rfl

@[simp] theorem storeReg_cfg (a v : Byte) (s : State) : (storeReg a v s).cfg = s.cfg := by
  unfold storeReg; split <;> rfl

@[simp] theorem storeReg_inputs (a v : Byte) (s : State) : (storeReg a v s).inputs = s.inputs := by
  unfold storeReg; split <;> rfl

@[simp] theorem storeReg_draws (a v : Byte) (s : State) : (storeReg a v s).draws = s.draws := by
  unfold storeReg; split <;> rfl

@[simp] theorem storeReg_clo (a v : Byte) (s : State) : (storeReg a v s).clo = s.clo := by
  unfold storeReg; split <;> rfl

/-- A write draws no free value and does not depend on how many have been drawn. -/
@[simp] theorem storeReg_drawMore (a v : Byte) (k : Nat) (s : State) :
    storeReg a v (s.drawMore k) = (storeReg a v s).drawMore k := by
  unfold storeReg; split <;> rfl

/-- A write elsewhere leaves FLAGS. -/
theorem storeReg_flags {a : Byte} (h : a ≠ flagsAddr) (v : Byte) (s : State) :
    (storeReg a v s).flags = s.flags := by
  have h' : regAt a ≠ .flags := by revert a; decide
  unfold storeReg
  split <;> first | rfl | (rename_i e; exact absurd e h')

/-- A write elsewhere leaves SP. -/
theorem storeReg_sp {a : Byte} (h : a ≠ 0xD9) (v : Byte) (s : State) :
    (storeReg a v s).sp = s.sp := by
  have h' : regAt a ≠ .sp := by revert a; decide
  unfold storeReg
  split <;> first | rfl | (rename_i e; exact absurd e h')

/-- A write to a control register leaves the general-purpose bytes. -/
theorem storeReg_ram_of_ge {a : Byte} (h : 0xD0 ≤ a.toNat) (v : Byte) (s : State) :
    (storeReg a v s).ram = s.ram := by
  have h' : regAt a ≠ .ram := fun e => by have := lt_of_regAt_ram e; omega
  unfold storeReg
  split <;> first | rfl | (rename_i e; exact absurd e h')

/-- A write keeps the general-purpose bytes canonical. -/
theorem storeReg_ram_wf (a v : Byte) (s : State) (h : Memory.wf ramDefault ramSize s.ram) :
    Memory.wf ramDefault ramSize (storeReg a v s).ram := by
  by_cases ha : a.toNat < 0xD0
  · rw [storeReg_ram ha]; exact wf_cellWrite v h ha
  · rw [storeReg_ram_of_ge (by omega)]; exact h

/-- A byte of the register file below D0H after a write there. -/
theorem cellRead_storeReg_other {a : Byte} {x : Nat} (h : x ≠ a.toNat) (v : Byte) (s : State) :
    cellRead ramDefault (storeReg a v s).ram x = cellRead ramDefault s.ram x := by
  by_cases ha : a.toNat < 0xD0
  · rw [storeReg_ram ha]; exact cellRead_write_other _ _ _ h
  · rw [storeReg_ram_of_ge (by omega)]

/-- A byte below D0H reads back as written. -/
theorem cellRead_storeReg_same {a : Byte} (ha : a.toNat < 0xD0) (v : Byte) (s : State)
    (h : Memory.wf ramDefault ramSize s.ram) :
    cellRead ramDefault (storeReg a v s).ram a.toNat = v := by
  rw [storeReg_ram ha]; exact cellRead_write_same _ _ _ _ h.1

theorem storeReg_at_t0data (v : Byte) (s : State) :
    storeReg 0xD1 v s =
      { s with t0 := { s.t0 with data := v } } := rfl

theorem storeReg_at_t0con (v : Byte) (s : State) :
    storeReg 0xD2 v s =
      { s with t0 := writeT0con v s.t0 } := rfl

theorem storeReg_at_clkcon (v : Byte) (s : State) :
    storeReg 0xD4 v s =
      { s with clkcon := v &&& 0x98 } := rfl

theorem storeReg_at_flags (v : Byte) (s : State) :
    storeReg 0xD5 v s =
      { s with flags := v &&& 0xF0 } := rfl

theorem storeReg_at_sp (v : Byte) (s : State) :
    storeReg 0xD9 v s =
      { s with sp := v } := rfl

theorem storeReg_at_mdsreg (v : Byte) (s : State) :
    storeReg 0xDB v s =
      { s with mdsreg := v } := rfl

theorem storeReg_at_btcon (v : Byte) (s : State) :
    storeReg 0xDC v s =
      { s with bt := writeBtcon v s.bt, div := if v.getLsbD 0 then 0 else s.div } := rfl

theorem storeReg_at_ftstcon (v : Byte) (s : State) :
    storeReg 0xDE v s =
      { s with ftstcon := v &&& 0x3F } := rfl

theorem storeReg_at_sym (v : Byte) (s : State) :
    storeReg 0xDF v s =
      { s with sym := v &&& 0x07 } := rfl

theorem storeReg_at_p0 (v : Byte) (s : State) :
    storeReg 0xE0 v s =
      { s with ports := { s.ports with p0 := v } } := rfl

theorem storeReg_at_p1 (v : Byte) (s : State) :
    storeReg 0xE1 v s =
      { s with ports := { s.ports with p1 := v &&& 0x07 } } := rfl

theorem storeReg_at_p2 (v : Byte) (s : State) :
    storeReg 0xE2 v s =
      { s with ports := { s.ports with p2 := v &&& 0x7F } } := rfl

theorem storeReg_at_p0conh (v : Byte) (s : State) :
    storeReg 0xE6 v s =
      { s with ports := { s.ports with p0conh := v } } := rfl

theorem storeReg_at_p0conl (v : Byte) (s : State) :
    storeReg 0xE7 v s =
      { s with ports := { s.ports with p0conl := v } } := rfl

theorem storeReg_at_p0pnd (v : Byte) (s : State) :
    storeReg 0xE8 v s =
      { s with ports := { s.ports with p0pnd := writePending 0x0A 0x05 s.ports.p0pnd v } } := rfl

theorem storeReg_at_p1con (v : Byte) (s : State) :
    storeReg 0xE9 v s =
      { s with ports := { s.ports with p1con := v &&& 0xCF } } := rfl

theorem storeReg_at_p2conh (v : Byte) (s : State) :
    storeReg 0xEA v s =
      { s with ports := { s.ports with p2conh := v &&& 0x7F } } := rfl

theorem storeReg_at_p2conl (v : Byte) (s : State) :
    storeReg 0xEB v s =
      { s with ports := { s.ports with p2conl := v } } := rfl

theorem storeReg_at_pwmdata (v : Byte) (s : State) :
    storeReg 0xF2 v s =
      { s with pwm := { s.pwm with data := v } } := rfl

theorem storeReg_at_pwmcon (v : Byte) (s : State) :
    storeReg 0xF3 v s =
      { s with pwm := writePwmcon v s.pwm } := rfl

theorem storeReg_at_stopcon (v : Byte) (s : State) :
    storeReg 0xF4 v s =
      { s with stopcon := v } := rfl

theorem storeReg_at_adcon (v : Byte) (s : State) :
    storeReg 0xF7 v s =
      { s with adc := writeAdcon v s.adc } := rfl

end Sys2Proof.Machine
end

