-- ==== Sys2Proof/Laws/Operations.lean ====
section
/-! SUPPORT. One lemma per shared operation that says everything it can do. -/

namespace Sys2Proof.Machine

/-! ### Sequencing -/

theorem andThen_eq_next {o : Host.Outcome State Fault Refusal}
    {f : State → Host.Outcome State Fault Refusal} {t : State} :
    andThen o f = .next t ↔ ∃ s, o = .next s ∧ f s = .next t := by
  cases o <;> simp [andThen]

@[simp] theorem andThen_next (s : State) (f : State → Host.Outcome State Fault Refusal) :
    andThen (.next s) f = f s := rfl

@[simp] theorem andThen_refused (r : Refusal) (f : State → Host.Outcome State Fault Refusal) :
    andThen (.refused r) f = .refused r := rfl

@[simp] theorem andThen_fault (r : Fault) (f : State → Host.Outcome State Fault Refusal) :
    andThen (.fault r) f = .fault r := rfl

/-- A write that is not refused, and what follows it. -/
theorem andThen_writeReg {a v : Byte} {s : State} (h : writeRefusal a v = none)
    (f : State → Host.Outcome State Fault Refusal) :
    andThen (writeReg a v s) f = f (storeReg a v s) := by
  simp [writeReg, h]

/-- A write that is refused. -/
theorem andThen_writeReg_refused {a v : Byte} {s : State} {r : Refusal}
    (h : writeRefusal a v = some r) (f : State → Host.Outcome State Fault Refusal) :
    andThen (writeReg a v s) f = .refused r := by
  simp [writeReg, h]

/-! ### Register pairs and the stack -/

theorem readPair_fst (a : Byte) (s : State) :
    (readPair a s).1 = wordOf (peek a s) (peek (a + 1) (afterRead a s)) := rfl

/-- Reading a pair only draws free values. -/
theorem readPair_snd (a : Byte) (s : State) : ∃ k, (readPair a s).2 = s.drawMore k := by
  refine ⟨readDraws a s + readDraws (a + 1) (s.drawMore (readDraws a s)), ?_⟩
  simp [readPair]

/-- Everything `push` can do. -/
theorem push_eq_next {v : Byte} {s t : State} :
    push v s = .next t ↔
      writeRefusal (s.sp - 1) v = none ∧ t = storeReg (s.sp - 1) v (s.setSp (s.sp - 1)) :=
  writeReg_eq_next

/-- Everything `pop` can do. -/
theorem pop_eq (s : State) :
    pop s = (peek s.sp s, (s.drawMore (readDraws s.sp s)).setSp (s.sp + 1)) := by
  simp [pop]

/-- Everything `pushWord` can do. -/
theorem pushWord_eq_next {w : Word} {s t : State} :
    pushWord w s = .next t ↔ ∃ u,
      (writeRefusal (s.sp - 1) (loByte w) = none ∧
        u = storeReg (s.sp - 1) (loByte w) (s.setSp (s.sp - 1))) ∧
      writeRefusal (u.sp - 1) (hiByte w) = none ∧
        t = storeReg (u.sp - 1) (hiByte w) (u.setSp (u.sp - 1)) := by
  simp only [pushWord, andThen_eq_next, push_eq_next]

/-- A word pushed with the stack in the general-purpose bytes. -/
theorem pushWord_ram {w : Word} {s : State} (h1 : (s.sp - 1).toNat < 0xD0)
    (h2 : (s.sp - 2).toNat < 0xD0) :
    pushWord w s = .next ((s.setSp (s.sp - 2)).setRam
      (cellWrite ramDefault (cellWrite ramDefault s.ram (s.sp - 1).toNat (loByte w))
        (s.sp - 2).toNat (hiByte w))) := by
  have e : s.sp - 1 - 1 = s.sp - 2 := by bv_omega
  refine pushWord_eq_next.mpr ⟨_, ⟨writeRefusal_ram h1 _, rfl⟩, ?_⟩
  rw [storeReg_ram h1]
  simp only [setRam_sp, setSp_sp, e]
  rw [storeReg_ram h2]
  exact ⟨writeRefusal_ram h2 _, rfl⟩

/-- A word popped with the stack in the general-purpose bytes. -/
theorem popWord_ram {s : State} (h1 : s.sp.toNat < 0xD0) (h2 : (s.sp + 1).toNat < 0xD0) :
    popWord s = (wordOf (cellRead ramDefault s.ram s.sp.toNat)
        (cellRead ramDefault s.ram (s.sp + 1).toNat), s.setSp (s.sp + 2)) := by
  have e : s.sp + 1 + 1 = s.sp + 2 := by bv_omega
  simp only [popWord, pop_eq]
  rw [peek_ram h1, readDraws_ram h1, drawMore_zero]
  rw [setSp_sp, peek_ram h2, readDraws_ram h2, drawMore_zero, e]
  rfl

/-! ### Program and data memory -/

/-- Everything `withProgByte` can do. -/
theorem withProgByte_eq_next {a : Word} {s t : State}
    {k : Byte → Host.Outcome State Fault Refusal} :
    withProgByte a s k = .next t ↔ a.toNat < s.cfg.romSize ∧ k (progByte a s) = .next t := by
  unfold withProgByte
  split <;> simp [*]

/-- Everything `writeProg` can do. -/
theorem writeProg_eq_next {a : Word} {v : Byte} {s t : State} :
    writeProg a v s = .next t ↔ s.cfg.progWritable = true ∧ a.toNat < s.cfg.romSize ∧
      t = { s with prog := cellWrite progDefault s.prog a.toNat v } := by
  unfold writeProg
  split
  · split <;> simp [*, eq_comm]
  · simp [*]

/-- Everything `withDataByte` can do. -/
theorem withDataByte_eq_next {a : Word} {s t : State}
    {k : Byte → Host.Outcome State Fault Refusal} :
    withDataByte a s k = .next t ↔ s.cfg.hasDataMem = true ∧ k (dataByte a s) = .next t := by
  unfold withDataByte
  split <;> simp [*]

/-- Everything `writeData` can do. -/
theorem writeData_eq_next {a : Word} {v : Byte} {s t : State} :
    writeData a v s = .next t ↔ s.cfg.hasDataMem = true ∧
      t = { s with data := cellWrite dataDefault s.data a.toNat v } := by
  unfold writeData
  split <;> simp [*, eq_comm]

/-! ### Operands -/

/-- Computing the address of an operand only draws free values. -/
theorem address_snd (o : Operand) (s : State) : ∃ k, (o.address s).2 = s.drawMore k := by
  cases o with
  | r n => exact ⟨0, rfl⟩
  | ir n => exact ⟨_, readReg_snd _ _⟩
  | reg a => exact ⟨0, rfl⟩
  | ireg a => exact ⟨_, readReg_snd _ _⟩
  | x b n => exact ⟨_, readReg_snd _ _⟩

/-- Reading a source only draws free values. -/
theorem value_snd (o : Source) (s : State) : ∃ k, (o.value s).2 = s.drawMore k := by
  cases o with
  | place o =>
    obtain ⟨k, hk⟩ := address_snd o s
    exact ⟨_, by rw [Source.value, hk, readReg_snd, drawMore_drawMore]⟩
  | imm v => exact ⟨0, rfl⟩

/-- Fetching two operands only draws free values. -/
theorem fetchTwo_after (d : Operand) (o : Source) (s : State) :
    ∃ k, (fetchTwo d o s).after = s.drawMore k := by
  obtain ⟨j, hj⟩ := address_snd d s
  obtain ⟨k, hk⟩ := value_snd o (d.address s).2
  refine ⟨j + k + readDraws (d.address s).1 ((d.address s).2.drawMore k), ?_⟩
  simp only [fetchTwo, readReg_snd, hk]
  rw [hj]
  simp

/-- An operand in a working register. -/
theorem address_r (n : WReg) (s : State) : (Operand.r n).address s = (wr n, s) := rfl

/-- An operand that a working register points to: working registers have no free bits. -/
theorem address_ir (n : WReg) (s : State) : (Operand.ir n).address s = (peek (wr n) s, s) := by
  simp [Operand.address, readReg, afterRead, freeMask_ram (wr_lt n)]

theorem address_x (b : Byte) (n : WReg) (s : State) :
    (Operand.x b n).address s = (b + peek (wr n) s, s) := by
  simp [Operand.address, readReg, afterRead, freeMask_ram (wr_lt n)]

/-- The flags after a store: all of FLAGS.7-4 from the operation, or free. -/
theorem flagsAfterStore_eq (a : Byte) (f : Czsv) (s : State) :
    ∃ hi k, flagsAfterStore a f s = { s.drawMore k with flags := mixBits 0xF0 hi s.flags } := by
  unfold flagsAfterStore
  split
  · exact ⟨_, 1, rfl⟩
  · exact ⟨_, 0, rfl⟩

/-- Everything `storeResult` can do. -/
theorem storeResult_eq_next {len : Nat} {a : Byte} {out : Alu} {s t : State} :
    storeResult len a out s = .next t ↔ writeRefusal a out.1 = none ∧
      t = (flagsAfterStore a out.2 (storeReg a out.1 s)).advance len := by
  simp only [storeResult, andThen_eq_next, writeReg_eq_next]
  constructor
  · rintro ⟨u, ⟨h, rfl⟩, e⟩
    exact ⟨h, by simpa [eq_comm] using e⟩
  · rintro ⟨h, rfl⟩
    exact ⟨_, ⟨h, rfl⟩, rfl⟩

/-- Everything `twoStore` can do. -/
theorem twoStore_eq_next {op : Czsv → Byte → Byte → Alu} {len : Nat} {d : Operand} {o : Source}
    {s t : State} :
    twoStore op len d o s = .next t ↔
      writeRefusal (fetchTwo d o s).addr
          (op s.czsv (fetchTwo d o s).dv (fetchTwo d o s).sv).1 = none ∧
        t = (flagsAfterStore (fetchTwo d o s).addr
          (op s.czsv (fetchTwo d o s).dv (fetchTwo d o s).sv).2
          (storeReg (fetchTwo d o s).addr (op s.czsv (fetchTwo d o s).dv (fetchTwo d o s).sv).1
            (fetchTwo d o s).after)).advance len :=
  storeResult_eq_next

/-- Everything `oneStore` can do. -/
theorem oneStore_eq_next {op : Czsv → Byte → Alu} {len : Nat} {d : Operand} {s t : State} :
    oneStore op len d s = .next t ↔
      writeRefusal (d.address s).1 (op s.czsv (peek (d.address s).1 (d.address s).2)).1 = none ∧
        t = (flagsAfterStore (d.address s).1
          (op s.czsv (peek (d.address s).1 (d.address s).2)).2
          (storeReg (d.address s).1 (op s.czsv (peek (d.address s).1 (d.address s).2)).1
            (afterRead (d.address s).1 (d.address s).2))).advance len :=
  storeResult_eq_next

/-- Everything `move` can do. -/
theorem move_eq_next {len : Nat} {d : Operand} {o : Source} {s t : State} :
    move len d o s = .next t ↔
      writeRefusal (d.address s).1 (o.value (d.address s).2).1 = none ∧
        t = (storeReg (d.address s).1 (o.value (d.address s).2).1
          (o.value (d.address s).2).2).advance len := by
  simp only [move, andThen_eq_next, writeReg_eq_next]
  constructor
  · rintro ⟨u, ⟨h, rfl⟩, e⟩
    exact ⟨h, by simpa [eq_comm] using e⟩
  · rintro ⟨h, rfl⟩
    exact ⟨_, ⟨h, rfl⟩, rfl⟩

/-- Everything `pushOperand` can do. -/
theorem pushOperand_eq_next {len : Nat} {o : Operand} {s t : State} :
    pushOperand len o s = .next t ↔
      ∃ u, u = readReg (o.address s).1 ((o.address s).2.setSp ((o.address s).2.sp - 1)) ∧
        writeRefusal u.2.sp u.1 = none ∧ t = (storeReg u.2.sp u.1 u.2).advance len := by
  simp only [pushOperand, andThen_eq_next, writeReg_eq_next]
  constructor
  · rintro ⟨v, ⟨h, rfl⟩, e⟩
    exact ⟨_, rfl, h, by simpa [eq_comm] using e⟩
  · rintro ⟨u, rfl, h, rfl⟩
    exact ⟨_, ⟨h, rfl⟩, rfl⟩

/-- Everything `popOperand` can do. -/
theorem popOperand_eq_next {len : Nat} {o : Operand} {s t : State} :
    popOperand len o s = .next t ↔
      ∃ u v, u = readReg (o.address s).2.sp (o.address s).2 ∧
        writeRefusal (o.address s).1 u.1 = none ∧ v = storeReg (o.address s).1 u.1 u.2 ∧
        t = (v.setSp (v.sp + 1)).advance len := by
  simp only [popOperand, andThen_eq_next, writeReg_eq_next]
  constructor
  · rintro ⟨v, ⟨h, rfl⟩, e⟩
    exact ⟨_, _, rfl, h, rfl, by simpa [eq_comm] using e⟩
  · rintro ⟨u, v, rfl, h, rfl, rfl⟩
    exact ⟨_, ⟨h, rfl⟩, rfl⟩

/-- Everything `loadThenStep` can do: it always goes on. -/
theorem loadThenStep_eq (delta : Word) (d : WReg) (p : Pair) (s : State) (v : Byte) :
    loadThenStep delta d p s v = .next ((setPair p
      (pairValue p (storeReg (wr d) v s) + delta) (storeReg (wr d) v s)).advance 2) := rfl

/-- A working register pair written: two bytes of the register file. -/
theorem setPair_eq (p : Pair) (w : Word) (s : State) :
    setPair p w s = s.setRam (cellWrite ramDefault
      (cellWrite ramDefault s.ram (wr (pairReg p)).toNat (hiByte w))
      (wr (pairReg p) + 1).toNat (loByte w)) := by
  rw [setPair, storeReg_ram (wr_lt _), storeReg_ram (pairReg_odd_lt p)]
  rfl

/-- Everything `withTargetPair` can do. -/
theorem withTargetPair_eq_next {a : Byte} {s t : State}
    {k : Word → State → Host.Outcome State Fault Refusal} :
    withTargetPair a s k = .next t ↔
      a.getLsbD 0 = false ∧ k (readPair a s).1 (readPair a s).2 = .next t := by
  unfold withTargetPair
  split
  · rename_i h; simp only [h, reduceCtorEq, Bool.true_eq_false, false_and]
  · rename_i h; simp only [Bool.not_eq_true] at h; simp only [h, true_and]

/-- Everything `callTo` can do. -/
theorem callTo_eq_next {len : Nat} {target : Word} {s t : State} :
    callTo len target s = .next t ↔
      ∃ u, pushWord (s.npc len) s = .next u ∧ t = u.goto target := by
  simp only [callTo, andThen_eq_next]
  constructor
  · rintro ⟨u, h, e⟩
    exact ⟨u, h, by simpa [eq_comm] using e⟩
  · rintro ⟨u, h, rfl⟩
    exact ⟨u, h, rfl⟩

/-! ### Interrupts -/

/-- Everything `withVector` can do. -/
theorem withVector_eq_next {s t : State} {k : Word → Host.Outcome State Fault Refusal} :
    withVector s k = .next t ↔ 0 < s.cfg.romSize ∧ 1 < s.cfg.romSize ∧
      k (wordOf (progByte 0 s) (progByte 1 s)) = .next t := by
  simp [withVector, withProgByte_eq_next]

/-- Everything taking an interrupt can do. -/
theorem interruptEntry_eq_next {s t : State} :
    interruptEntry s = .next t ↔ ∃ u v,
      pushWord s.pc (s.setGie false) = .next u ∧
      push (peek flagsAddr u) (afterRead flagsAddr u) = .next v ∧
      0 < v.cfg.romSize ∧ 1 < v.cfg.romSize ∧
      t = v.goto (wordOf (progByte 0 v) (progByte 1 v)) := by
  simp only [interruptEntry, andThen_eq_next, withVector_eq_next]
  constructor
  · rintro ⟨u, hu, v, hv, h0, h1, e⟩
    exact ⟨u, v, hu, hv, h0, h1, by simpa [eq_comm] using e⟩
  · rintro ⟨u, v, hu, hv, h0, h1, rfl⟩
    exact ⟨u, hu, v, hv, h0, h1, rfl⟩

/-- Everything returning from an interrupt can do: FLAGS accepts every byte, so it goes on. -/
theorem interruptReturn_eq (s : State) :
    interruptReturn s = .next
      (((popWord (storeReg flagsAddr (pop s).1 (pop s).2)).2.goto
        (popWord (storeReg flagsAddr (pop s).1 (pop s).2)).1).setGie true) := by
  simp only [interruptReturn]
  rw [andThen_writeReg (by rfl)]

/-! ### Fetching -/

/-- Everything `withProgBytes` can do: the bytes from `a` up, all of them inside the ROM. -/
theorem withProgBytes_eq_next {s t : State} (n : Nat) :
    ∀ {a : Word} {k : List Byte → Host.Outcome State Fault Refusal},
      withProgBytes n a s k = .next t →
        ∃ bs, bs.length = n ∧ k bs = .next t := by
  induction n with
  | zero => intro a k h; exact ⟨[], rfl, h⟩
  | succ n ih =>
    intro a k h
    obtain ⟨_, h⟩ := withProgByte_eq_next.mp h
    obtain ⟨bs, hl, hk⟩ := ih h
    exact ⟨_ :: bs, by simp [hl], hk⟩

/-- Everything `withInstr` can do: it runs an instruction that the decoder gives. -/
theorem withInstr_eq_next {s t : State} {k : Instr → Host.Outcome State Fault Refusal}
    (h : withInstr s k = .next t) :
    ∃ bs i, decode bs = .instr i ∧ k i = .next t := by
  unfold withInstr at h
  obtain ⟨_, h⟩ := withProgByte_eq_next.mp h
  split at h
  · simp at h
  · obtain ⟨bs, _, h⟩ := withProgBytes_eq_next _ h
    split at h
    · exact ⟨bs, _, ‹_›, h⟩
    · simp at h
    · simp at h

/-- Everything one instruction with its time can do. -/
theorem runInstruction_eq_next {es : List EnvEvent} {s t : State}
    (h : runInstruction es s = .next t) :
    ∃ i u, exec i s = .next u ∧ t = elapse s.clkcon (cycles s.cfg i) es u := by
  obtain ⟨_, i, _, h⟩ := withInstr_eq_next h
  obtain ⟨u, hu, e⟩ := andThen_eq_next.mp h
  exact ⟨i, u, hu, by simpa [eq_comm] using e⟩

/-- Everything an interrupt entry with its time can do. -/
theorem runEntry_eq_next {es : List EnvEvent} {s t : State} (h : runEntry es s = .next t) :
    ∃ u, interruptEntry s = .next u ∧ t = elapse s.clkcon s.cfg.entryCycles es u := by
  obtain ⟨u, hu, e⟩ := andThen_eq_next.mp h
  exact ⟨u, hu, by simpa [eq_comm] using e⟩

/-- Everything a step can do, by the reset request and the power state. -/
theorem stepWith_eq_next {inp : StepInput} {s t : State} (h : stepWith inp s = .next t) :
    (∃ src, resetRequest inp.powerOn s = some src ∧ t = stepReset src inp.events s) ∨
    (resetRequest inp.powerOn s = none ∧
      ((s.mode = .resetWait ∧ t = stepWait inp.events s) ∨
       (s.mode = .run ∧ s.gie = true ∧ s.irq = true ∧ runEntry inp.events s = .next t) ∨
       (s.mode = .run ∧ (s.gie && s.irq) = false ∧ runInstruction inp.events s = .next t) ∨
       (s.mode = .idle ∧ t = stepIdle inp.events s) ∨
       (s.mode = .stop ∧ t = stepStop inp.events s))) := by
  unfold stepWith at h
  split at h
  · rename_i src hs
    exact .inl ⟨src, hs, by simpa [eq_comm] using h⟩
  · rename_i hs
    refine .inr ⟨hs, ?_⟩
    split at h
    · rename_i hm
      exact .inl ⟨hm, by simpa [eq_comm] using h⟩
    · rename_i hm
      unfold stepRun at h
      split at h
      · rename_i hi
        simp only [Bool.and_eq_true] at hi
        exact .inr (.inl ⟨hm, hi.1, hi.2, h⟩)
      · rename_i hi
        exact .inr (.inr (.inl ⟨hm, by simpa using hi, h⟩))
    · rename_i hm
      exact .inr (.inr (.inr (.inl ⟨hm, by simpa [eq_comm] using h⟩)))
    · rename_i hm
      exact .inr (.inr (.inr (.inr ⟨hm, by simpa [eq_comm] using h⟩)))

end Sys2Proof.Machine
end

