-- ==== Sys2Proof/Laws/Agents.lean ====
section
/-! SUPPORT. What the on-chip agents, the environment and a reset leave unchanged, one lemma per
field. -/

namespace Sys2Proof.Machine

/-! ### `btStep` -/

@[simp] theorem btStep_ram (s : State) : (btStep s).ram = s.ram := by
  unfold btStep; split <;> rfl

@[simp] theorem btStep_prog (s : State) : (btStep s).prog = s.prog := by
  unfold btStep; split <;> rfl

@[simp] theorem btStep_data (s : State) : (btStep s).data = s.data := by
  unfold btStep; split <;> rfl

@[simp] theorem btStep_pc (s : State) : (btStep s).pc = s.pc := by
  unfold btStep; split <;> rfl

@[simp] theorem btStep_flags (s : State) : (btStep s).flags = s.flags := by
  unfold btStep; split <;> rfl

@[simp] theorem btStep_sp (s : State) : (btStep s).sp = s.sp := by
  unfold btStep; split <;> rfl

@[simp] theorem btStep_sym (s : State) : (btStep s).sym = s.sym := by
  unfold btStep; split <;> rfl

@[simp] theorem btStep_mode (s : State) : (btStep s).mode = s.mode := by
  unfold btStep; split <;> rfl

@[simp] theorem btStep_clkcon (s : State) : (btStep s).clkcon = s.clkcon := by
  unfold btStep; split <;> rfl

@[simp] theorem btStep_stopcon (s : State) : (btStep s).stopcon = s.stopcon := by
  unfold btStep; split <;> rfl

@[simp] theorem btStep_mdsreg (s : State) : (btStep s).mdsreg = s.mdsreg := by
  unfold btStep; split <;> rfl

@[simp] theorem btStep_ftstcon (s : State) : (btStep s).ftstcon = s.ftstcon := by
  unfold btStep; split <;> rfl

@[simp] theorem btStep_div (s : State) : (btStep s).div = s.div := by
  unfold btStep; split <;> rfl

@[simp] theorem btStep_clo (s : State) : (btStep s).clo = s.clo := by
  unfold btStep; split <;> rfl

@[simp] theorem btStep_t0 (s : State) : (btStep s).t0 = s.t0 := by
  unfold btStep; split <;> rfl

@[simp] theorem btStep_pwm (s : State) : (btStep s).pwm = s.pwm := by
  unfold btStep; split <;> rfl

@[simp] theorem btStep_adc (s : State) : (btStep s).adc = s.adc := by
  unfold btStep; split <;> rfl

@[simp] theorem btStep_ports (s : State) : (btStep s).ports = s.ports := by
  unfold btStep; split <;> rfl

@[simp] theorem btStep_pins (s : State) : (btStep s).pins = s.pins := by
  unfold btStep; split <;> rfl

@[simp] theorem btStep_cfg (s : State) : (btStep s).cfg = s.cfg := by
  unfold btStep; split <;> rfl

@[simp] theorem btStep_inputs (s : State) : (btStep s).inputs = s.inputs := by
  unfold btStep; split <;> rfl

@[simp] theorem btStep_draws (s : State) : (btStep s).draws = s.draws := by
  unfold btStep; split <;> rfl

/-! ### `t0Step` -/

@[simp] theorem t0Step_ram (s : State) : (t0Step s).ram = s.ram := by
  unfold t0Step; split <;> rfl

@[simp] theorem t0Step_prog (s : State) : (t0Step s).prog = s.prog := by
  unfold t0Step; split <;> rfl

@[simp] theorem t0Step_data (s : State) : (t0Step s).data = s.data := by
  unfold t0Step; split <;> rfl

@[simp] theorem t0Step_pc (s : State) : (t0Step s).pc = s.pc := by
  unfold t0Step; split <;> rfl

@[simp] theorem t0Step_flags (s : State) : (t0Step s).flags = s.flags := by
  unfold t0Step; split <;> rfl

@[simp] theorem t0Step_sp (s : State) : (t0Step s).sp = s.sp := by
  unfold t0Step; split <;> rfl

@[simp] theorem t0Step_sym (s : State) : (t0Step s).sym = s.sym := by
  unfold t0Step; split <;> rfl

@[simp] theorem t0Step_mode (s : State) : (t0Step s).mode = s.mode := by
  unfold t0Step; split <;> rfl

@[simp] theorem t0Step_clkcon (s : State) : (t0Step s).clkcon = s.clkcon := by
  unfold t0Step; split <;> rfl

@[simp] theorem t0Step_stopcon (s : State) : (t0Step s).stopcon = s.stopcon := by
  unfold t0Step; split <;> rfl

@[simp] theorem t0Step_mdsreg (s : State) : (t0Step s).mdsreg = s.mdsreg := by
  unfold t0Step; split <;> rfl

@[simp] theorem t0Step_ftstcon (s : State) : (t0Step s).ftstcon = s.ftstcon := by
  unfold t0Step; split <;> rfl

@[simp] theorem t0Step_div (s : State) : (t0Step s).div = s.div := by
  unfold t0Step; split <;> rfl

@[simp] theorem t0Step_clo (s : State) : (t0Step s).clo = s.clo := by
  unfold t0Step; split <;> rfl

@[simp] theorem t0Step_bt (s : State) : (t0Step s).bt = s.bt := by
  unfold t0Step; split <;> rfl

@[simp] theorem t0Step_pwm (s : State) : (t0Step s).pwm = s.pwm := by
  unfold t0Step; split <;> rfl

@[simp] theorem t0Step_adc (s : State) : (t0Step s).adc = s.adc := by
  unfold t0Step; split <;> rfl

@[simp] theorem t0Step_ports (s : State) : (t0Step s).ports = s.ports := by
  unfold t0Step; split <;> rfl

@[simp] theorem t0Step_pins (s : State) : (t0Step s).pins = s.pins := by
  unfold t0Step; split <;> rfl

@[simp] theorem t0Step_cfg (s : State) : (t0Step s).cfg = s.cfg := by
  unfold t0Step; split <;> rfl

@[simp] theorem t0Step_inputs (s : State) : (t0Step s).inputs = s.inputs := by
  unfold t0Step; split <;> rfl

@[simp] theorem t0Step_draws (s : State) : (t0Step s).draws = s.draws := by
  unfold t0Step; split <;> rfl

/-! ### `pwmStep` -/

@[simp] theorem pwmStep_ram (s : State) : (pwmStep s).ram = s.ram := by
  unfold pwmStep; split <;> rfl

@[simp] theorem pwmStep_prog (s : State) : (pwmStep s).prog = s.prog := by
  unfold pwmStep; split <;> rfl

@[simp] theorem pwmStep_data (s : State) : (pwmStep s).data = s.data := by
  unfold pwmStep; split <;> rfl

@[simp] theorem pwmStep_pc (s : State) : (pwmStep s).pc = s.pc := by
  unfold pwmStep; split <;> rfl

@[simp] theorem pwmStep_flags (s : State) : (pwmStep s).flags = s.flags := by
  unfold pwmStep; split <;> rfl

@[simp] theorem pwmStep_sp (s : State) : (pwmStep s).sp = s.sp := by
  unfold pwmStep; split <;> rfl

@[simp] theorem pwmStep_sym (s : State) : (pwmStep s).sym = s.sym := by
  unfold pwmStep; split <;> rfl

@[simp] theorem pwmStep_mode (s : State) : (pwmStep s).mode = s.mode := by
  unfold pwmStep; split <;> rfl

@[simp] theorem pwmStep_clkcon (s : State) : (pwmStep s).clkcon = s.clkcon := by
  unfold pwmStep; split <;> rfl

@[simp] theorem pwmStep_stopcon (s : State) : (pwmStep s).stopcon = s.stopcon := by
  unfold pwmStep; split <;> rfl

@[simp] theorem pwmStep_mdsreg (s : State) : (pwmStep s).mdsreg = s.mdsreg := by
  unfold pwmStep; split <;> rfl

@[simp] theorem pwmStep_ftstcon (s : State) : (pwmStep s).ftstcon = s.ftstcon := by
  unfold pwmStep; split <;> rfl

@[simp] theorem pwmStep_div (s : State) : (pwmStep s).div = s.div := by
  unfold pwmStep; split <;> rfl

@[simp] theorem pwmStep_clo (s : State) : (pwmStep s).clo = s.clo := by
  unfold pwmStep; split <;> rfl

@[simp] theorem pwmStep_t0 (s : State) : (pwmStep s).t0 = s.t0 := by
  unfold pwmStep; split <;> rfl

@[simp] theorem pwmStep_bt (s : State) : (pwmStep s).bt = s.bt := by
  unfold pwmStep; split <;> rfl

@[simp] theorem pwmStep_adc (s : State) : (pwmStep s).adc = s.adc := by
  unfold pwmStep; split <;> rfl

@[simp] theorem pwmStep_ports (s : State) : (pwmStep s).ports = s.ports := by
  unfold pwmStep; split <;> rfl

@[simp] theorem pwmStep_pins (s : State) : (pwmStep s).pins = s.pins := by
  unfold pwmStep; split <;> rfl

@[simp] theorem pwmStep_cfg (s : State) : (pwmStep s).cfg = s.cfg := by
  unfold pwmStep; split <;> rfl

@[simp] theorem pwmStep_inputs (s : State) : (pwmStep s).inputs = s.inputs := by
  unfold pwmStep; split <;> rfl

@[simp] theorem pwmStep_draws (s : State) : (pwmStep s).draws = s.draws := by
  unfold pwmStep; split <;> rfl

/-! ### `adcStep` -/

@[simp] theorem adcStep_ram (s : State) : (adcStep s).ram = s.ram := by
  unfold adcStep; split
  · split <;> rfl
  · rfl

@[simp] theorem adcStep_prog (s : State) : (adcStep s).prog = s.prog := by
  unfold adcStep; split
  · split <;> rfl
  · rfl

@[simp] theorem adcStep_data (s : State) : (adcStep s).data = s.data := by
  unfold adcStep; split
  · split <;> rfl
  · rfl

@[simp] theorem adcStep_pc (s : State) : (adcStep s).pc = s.pc := by
  unfold adcStep; split
  · split <;> rfl
  · rfl

@[simp] theorem adcStep_flags (s : State) : (adcStep s).flags = s.flags := by
  unfold adcStep; split
  · split <;> rfl
  · rfl

@[simp] theorem adcStep_sp (s : State) : (adcStep s).sp = s.sp := by
  unfold adcStep; split
  · split <;> rfl
  · rfl

@[simp] theorem adcStep_sym (s : State) : (adcStep s).sym = s.sym := by
  unfold adcStep; split
  · split <;> rfl
  · rfl

@[simp] theorem adcStep_mode (s : State) : (adcStep s).mode = s.mode := by
  unfold adcStep; split
  · split <;> rfl
  · rfl

@[simp] theorem adcStep_clkcon (s : State) : (adcStep s).clkcon = s.clkcon := by
  unfold adcStep; split
  · split <;> rfl
  · rfl

@[simp] theorem adcStep_stopcon (s : State) : (adcStep s).stopcon = s.stopcon := by
  unfold adcStep; split
  · split <;> rfl
  · rfl

@[simp] theorem adcStep_mdsreg (s : State) : (adcStep s).mdsreg = s.mdsreg := by
  unfold adcStep; split
  · split <;> rfl
  · rfl

@[simp] theorem adcStep_ftstcon (s : State) : (adcStep s).ftstcon = s.ftstcon := by
  unfold adcStep; split
  · split <;> rfl
  · rfl

@[simp] theorem adcStep_div (s : State) : (adcStep s).div = s.div := by
  unfold adcStep; split
  · split <;> rfl
  · rfl

@[simp] theorem adcStep_clo (s : State) : (adcStep s).clo = s.clo := by
  unfold adcStep; split
  · split <;> rfl
  · rfl

@[simp] theorem adcStep_t0 (s : State) : (adcStep s).t0 = s.t0 := by
  unfold adcStep; split
  · split <;> rfl
  · rfl

@[simp] theorem adcStep_bt (s : State) : (adcStep s).bt = s.bt := by
  unfold adcStep; split
  · split <;> rfl
  · rfl

@[simp] theorem adcStep_pwm (s : State) : (adcStep s).pwm = s.pwm := by
  unfold adcStep; split
  · split <;> rfl
  · rfl

@[simp] theorem adcStep_ports (s : State) : (adcStep s).ports = s.ports := by
  unfold adcStep; split
  · split <;> rfl
  · rfl

@[simp] theorem adcStep_pins (s : State) : (adcStep s).pins = s.pins := by
  unfold adcStep; split
  · split <;> rfl
  · rfl

@[simp] theorem adcStep_cfg (s : State) : (adcStep s).cfg = s.cfg := by
  unfold adcStep; split
  · split <;> rfl
  · rfl

@[simp] theorem adcStep_inputs (s : State) : (adcStep s).inputs = s.inputs := by
  unfold adcStep; split
  · split <;> rfl
  · rfl

/-! ### `cloStep` -/

@[simp] theorem cloStep_ram (s : State) : (cloStep s).ram = s.ram := by
  unfold cloStep; split <;> rfl

@[simp] theorem cloStep_prog (s : State) : (cloStep s).prog = s.prog := by
  unfold cloStep; split <;> rfl

@[simp] theorem cloStep_data (s : State) : (cloStep s).data = s.data := by
  unfold cloStep; split <;> rfl

@[simp] theorem cloStep_pc (s : State) : (cloStep s).pc = s.pc := by
  unfold cloStep; split <;> rfl

@[simp] theorem cloStep_flags (s : State) : (cloStep s).flags = s.flags := by
  unfold cloStep; split <;> rfl

@[simp] theorem cloStep_sp (s : State) : (cloStep s).sp = s.sp := by
  unfold cloStep; split <;> rfl

@[simp] theorem cloStep_sym (s : State) : (cloStep s).sym = s.sym := by
  unfold cloStep; split <;> rfl

@[simp] theorem cloStep_mode (s : State) : (cloStep s).mode = s.mode := by
  unfold cloStep; split <;> rfl

@[simp] theorem cloStep_clkcon (s : State) : (cloStep s).clkcon = s.clkcon := by
  unfold cloStep; split <;> rfl

@[simp] theorem cloStep_stopcon (s : State) : (cloStep s).stopcon = s.stopcon := by
  unfold cloStep; split <;> rfl

@[simp] theorem cloStep_mdsreg (s : State) : (cloStep s).mdsreg = s.mdsreg := by
  unfold cloStep; split <;> rfl

@[simp] theorem cloStep_ftstcon (s : State) : (cloStep s).ftstcon = s.ftstcon := by
  unfold cloStep; split <;> rfl

@[simp] theorem cloStep_div (s : State) : (cloStep s).div = s.div := by
  unfold cloStep; split <;> rfl

@[simp] theorem cloStep_t0 (s : State) : (cloStep s).t0 = s.t0 := by
  unfold cloStep; split <;> rfl

@[simp] theorem cloStep_bt (s : State) : (cloStep s).bt = s.bt := by
  unfold cloStep; split <;> rfl

@[simp] theorem cloStep_pwm (s : State) : (cloStep s).pwm = s.pwm := by
  unfold cloStep; split <;> rfl

@[simp] theorem cloStep_adc (s : State) : (cloStep s).adc = s.adc := by
  unfold cloStep; split <;> rfl

@[simp] theorem cloStep_ports (s : State) : (cloStep s).ports = s.ports := by
  unfold cloStep; split <;> rfl

@[simp] theorem cloStep_pins (s : State) : (cloStep s).pins = s.pins := by
  unfold cloStep; split <;> rfl

@[simp] theorem cloStep_cfg (s : State) : (cloStep s).cfg = s.cfg := by
  unfold cloStep; split <;> rfl

@[simp] theorem cloStep_inputs (s : State) : (cloStep s).inputs = s.inputs := by
  unfold cloStep; split <;> rfl

/-! ### `tick` -/

@[simp] theorem tick_ram (s : State) : (tick s).ram = s.ram := by
  unfold tick; split <;> simp

@[simp] theorem tick_prog (s : State) : (tick s).prog = s.prog := by
  unfold tick; split <;> simp

@[simp] theorem tick_data (s : State) : (tick s).data = s.data := by
  unfold tick; split <;> simp

@[simp] theorem tick_pc (s : State) : (tick s).pc = s.pc := by
  unfold tick; split <;> simp

@[simp] theorem tick_flags (s : State) : (tick s).flags = s.flags := by
  unfold tick; split <;> simp

@[simp] theorem tick_sp (s : State) : (tick s).sp = s.sp := by
  unfold tick; split <;> simp

@[simp] theorem tick_sym (s : State) : (tick s).sym = s.sym := by
  unfold tick; split <;> simp

@[simp] theorem tick_mode (s : State) : (tick s).mode = s.mode := by
  unfold tick; split <;> simp

@[simp] theorem tick_clkcon (s : State) : (tick s).clkcon = s.clkcon := by
  unfold tick; split <;> simp

@[simp] theorem tick_stopcon (s : State) : (tick s).stopcon = s.stopcon := by
  unfold tick; split <;> simp

@[simp] theorem tick_mdsreg (s : State) : (tick s).mdsreg = s.mdsreg := by
  unfold tick; split <;> simp

@[simp] theorem tick_ftstcon (s : State) : (tick s).ftstcon = s.ftstcon := by
  unfold tick; split <;> simp

@[simp] theorem tick_ports (s : State) : (tick s).ports = s.ports := by
  unfold tick; split <;> simp

@[simp] theorem tick_pins (s : State) : (tick s).pins = s.pins := by
  unfold tick; split <;> simp

@[simp] theorem tick_cfg (s : State) : (tick s).cfg = s.cfg := by
  unfold tick; split <;> simp

@[simp] theorem tick_inputs (s : State) : (tick s).inputs = s.inputs := by
  unfold tick; split <;> simp

/-! ### `ticks` -/

@[simp] theorem ticks_ram (n : Nat) (s : State) : (ticks n s).ram = s.ram := by
  induction n generalizing s with
  | zero => rfl
  | succ n ih => simp [ticks, ih]

@[simp] theorem ticks_prog (n : Nat) (s : State) : (ticks n s).prog = s.prog := by
  induction n generalizing s with
  | zero => rfl
  | succ n ih => simp [ticks, ih]

@[simp] theorem ticks_data (n : Nat) (s : State) : (ticks n s).data = s.data := by
  induction n generalizing s with
  | zero => rfl
  | succ n ih => simp [ticks, ih]

@[simp] theorem ticks_pc (n : Nat) (s : State) : (ticks n s).pc = s.pc := by
  induction n generalizing s with
  | zero => rfl
  | succ n ih => simp [ticks, ih]

@[simp] theorem ticks_flags (n : Nat) (s : State) : (ticks n s).flags = s.flags := by
  induction n generalizing s with
  | zero => rfl
  | succ n ih => simp [ticks, ih]

@[simp] theorem ticks_sp (n : Nat) (s : State) : (ticks n s).sp = s.sp := by
  induction n generalizing s with
  | zero => rfl
  | succ n ih => simp [ticks, ih]

@[simp] theorem ticks_sym (n : Nat) (s : State) : (ticks n s).sym = s.sym := by
  induction n generalizing s with
  | zero => rfl
  | succ n ih => simp [ticks, ih]

@[simp] theorem ticks_mode (n : Nat) (s : State) : (ticks n s).mode = s.mode := by
  induction n generalizing s with
  | zero => rfl
  | succ n ih => simp [ticks, ih]

@[simp] theorem ticks_clkcon (n : Nat) (s : State) : (ticks n s).clkcon = s.clkcon := by
  induction n generalizing s with
  | zero => rfl
  | succ n ih => simp [ticks, ih]

@[simp] theorem ticks_stopcon (n : Nat) (s : State) : (ticks n s).stopcon = s.stopcon := by
  induction n generalizing s with
  | zero => rfl
  | succ n ih => simp [ticks, ih]

@[simp] theorem ticks_mdsreg (n : Nat) (s : State) : (ticks n s).mdsreg = s.mdsreg := by
  induction n generalizing s with
  | zero => rfl
  | succ n ih => simp [ticks, ih]

@[simp] theorem ticks_ftstcon (n : Nat) (s : State) : (ticks n s).ftstcon = s.ftstcon := by
  induction n generalizing s with
  | zero => rfl
  | succ n ih => simp [ticks, ih]

@[simp] theorem ticks_ports (n : Nat) (s : State) : (ticks n s).ports = s.ports := by
  induction n generalizing s with
  | zero => rfl
  | succ n ih => simp [ticks, ih]

@[simp] theorem ticks_pins (n : Nat) (s : State) : (ticks n s).pins = s.pins := by
  induction n generalizing s with
  | zero => rfl
  | succ n ih => simp [ticks, ih]

@[simp] theorem ticks_cfg (n : Nat) (s : State) : (ticks n s).cfg = s.cfg := by
  induction n generalizing s with
  | zero => rfl
  | succ n ih => simp [ticks, ih]

@[simp] theorem ticks_inputs (n : Nat) (s : State) : (ticks n s).inputs = s.inputs := by
  induction n generalizing s with
  | zero => rfl
  | succ n ih => simp [ticks, ih]

/-! ### The environment -/

theorem noteReset_eq (s : State) :
    noteReset s = { s with pins := { s.pins with resetSeen := resetHeld s } } := rfl

@[simp] theorem resetActive_noteReset (s : State) : resetActive (noteReset s) = resetActive s := rfl

@[simp] theorem resetHeld_noteReset (s : State) : resetHeld (noteReset s) = resetHeld s := by
  simp only [resetHeld, resetActive_noteReset]
  show (s.pins.resetSeen || resetActive s || resetActive s) = _
  cases s.pins.resetSeen <;> cases resetActive s <;> rfl

@[simp] theorem resetHeld_ticks (n : Nat) (s : State) : resetHeld (ticks n s) = resetHeld s := by
  simp [resetHeld, resetActive]

/-- A reset source that has been seen stays seen through every event. -/
theorem applyEvent_resetSeen (e : EnvEvent) {s : State} (h : s.pins.resetSeen = true) :
    (applyEvent e s).pins.resetSeen = true := by
  cases e <;> simp [applyEvent, noteReset, changePins, h]


@[simp] theorem applyEvent_ram (e : EnvEvent) (s : State) :
    (applyEvent e s).ram = s.ram := by
  cases e <;> rfl

@[simp] theorem applyEvent_prog (e : EnvEvent) (s : State) :
    (applyEvent e s).prog = s.prog := by
  cases e <;> rfl

@[simp] theorem applyEvent_data (e : EnvEvent) (s : State) :
    (applyEvent e s).data = s.data := by
  cases e <;> rfl

@[simp] theorem applyEvent_pc (e : EnvEvent) (s : State) :
    (applyEvent e s).pc = s.pc := by
  cases e <;> rfl

@[simp] theorem applyEvent_flags (e : EnvEvent) (s : State) :
    (applyEvent e s).flags = s.flags := by
  cases e <;> rfl

@[simp] theorem applyEvent_sp (e : EnvEvent) (s : State) :
    (applyEvent e s).sp = s.sp := by
  cases e <;> rfl

@[simp] theorem applyEvent_sym (e : EnvEvent) (s : State) :
    (applyEvent e s).sym = s.sym := by
  cases e <;> rfl

@[simp] theorem applyEvent_mode (e : EnvEvent) (s : State) :
    (applyEvent e s).mode = s.mode := by
  cases e <;> rfl

@[simp] theorem applyEvent_clkcon (e : EnvEvent) (s : State) :
    (applyEvent e s).clkcon = s.clkcon := by
  cases e <;> rfl

@[simp] theorem applyEvent_stopcon (e : EnvEvent) (s : State) :
    (applyEvent e s).stopcon = s.stopcon := by
  cases e <;> rfl

@[simp] theorem applyEvent_mdsreg (e : EnvEvent) (s : State) :
    (applyEvent e s).mdsreg = s.mdsreg := by
  cases e <;> rfl

@[simp] theorem applyEvent_ftstcon (e : EnvEvent) (s : State) :
    (applyEvent e s).ftstcon = s.ftstcon := by
  cases e <;> rfl

@[simp] theorem applyEvent_div (e : EnvEvent) (s : State) :
    (applyEvent e s).div = s.div := by
  cases e <;> rfl

@[simp] theorem applyEvent_clo (e : EnvEvent) (s : State) :
    (applyEvent e s).clo = s.clo := by
  cases e <;> rfl

@[simp] theorem applyEvent_t0 (e : EnvEvent) (s : State) :
    (applyEvent e s).t0 = s.t0 := by
  cases e <;> rfl

@[simp] theorem applyEvent_bt (e : EnvEvent) (s : State) :
    (applyEvent e s).bt = s.bt := by
  cases e <;> rfl

@[simp] theorem applyEvent_pwm (e : EnvEvent) (s : State) :
    (applyEvent e s).pwm = s.pwm := by
  cases e <;> rfl

@[simp] theorem applyEvent_adc (e : EnvEvent) (s : State) :
    (applyEvent e s).adc = s.adc := by
  cases e <;> rfl

@[simp] theorem applyEvent_cfg (e : EnvEvent) (s : State) :
    (applyEvent e s).cfg = s.cfg := by
  cases e <;> rfl

@[simp] theorem applyEvent_inputs (e : EnvEvent) (s : State) :
    (applyEvent e s).inputs = s.inputs := by
  cases e <;> rfl

@[simp] theorem applyEvent_draws (e : EnvEvent) (s : State) :
    (applyEvent e s).draws = s.draws := by
  cases e <;> rfl

/-- Time that keeps a view of the state keeps it where the chip may be held in reset. -/
theorem passTime_keeps {α : Type} (view : State → α) {pass : State → State}
    (h : ∀ s, view (pass s) = view s) (s : State) : view (passTime pass s) = view s := by
  unfold passTime; split
  · rfl
  · exact h s

/-- The events of a step keep every view of the state that time and each event keep. -/
theorem elapseBy_keeps {α : Type} (view : State → α) {pass : Nat → State → State}
    (h : ∀ n s, view (pass n s) = view s) (he : ∀ e s, view (applyEvent e s) = view s)
    (es : List EnvEvent) (s : State) : view (elapseBy pass es s) = view s := by
  induction es generalizing s with
  | nil => rfl
  | cons e es ih => cases e <;> simp only [elapseBy, ih, passTime_keeps view (h _), he]

theorem elapseExact_keeps {α : Type} (view : State → α) (h : ∀ n s, view (ticks n s) = view s)
    (he : ∀ e s, view (applyEvent e s) = view s) (k : Nat) (es : List EnvEvent) (s : State) :
    view (elapseExact k es s) = view s := by
  induction es generalizing k s with
  | nil => exact passTime_keeps view (h k) s
  | cons e es ih => cases e <;> simp only [elapseExact, ih, passTime_keeps view (h _), he]

/-- `elapse` keeps every view of the state that time and each event keep, in both time models. -/
theorem elapse_keeps {α : Type} (view : State → α) (h : ∀ n s, view (ticks n s) = view s)
    (he : ∀ e s, view (applyEvent e s) = view s) (c : Byte) (n : Nat) (es : List EnvEvent)
    (s : State) : view (elapse c n es s) = view s := by
  unfold elapse; split
  · exact elapseBy_keeps view h he es s
  · exact elapseExact_keeps view h he _ es s

/-- Everything the wait for the oscillator can do: some of the periods pass. -/
theorem waitTicks_eq (n : Nat) (s : State) : ∃ k, k ≤ n ∧ waitTicks n s = ticks k s := by
  induction n generalizing s with
  | zero => exact ⟨0, Nat.le_refl _, rfl⟩
  | succ n ih =>
    unfold waitTicks; split
    · exact ⟨0, Nat.zero_le _, rfl⟩
    · obtain ⟨k, hk, h⟩ := ih (tick s)
      exact ⟨k + 1, Nat.succ_le_succ hk, h⟩

/-- Everything `passTime` can do. -/
theorem passTime_eq (pass : State → State) (s : State) :
    (resetHeld s = true ∧ passTime pass s = s) ∨
      (resetHeld s = false ∧ passTime pass s = pass s) := by
  unfold passTime
  cases h : resetHeld s <;> simp

/-- What a wait over `n` periods is while the signal of R243 (d) has not come before the last. -/
theorem waitTicks_before {n : Nat} {s : State}
    (h : ∀ k < n, (ticks k s).bt.stable = false) : waitTicks n s = ticks n s := by
  induction n generalizing s with
  | zero => rfl
  | succ n ih =>
    have h0 : s.bt.stable = false := h 0 (Nat.succ_pos n)
    have : waitOver s = false := by simp [waitOver, h0]
    simp only [waitTicks, this, Bool.false_eq_true, if_false, ticks]
    exact ih fun k hk => h (k + 1) (Nat.succ_lt_succ hk)

@[simp] theorem elapseFree_ram (es : List EnvEvent) (s : State) :
    (elapseFree es s).ram = s.ram := elapseBy_keeps _ ticks_ram applyEvent_ram es s

@[simp] theorem elapseExact_ram (k : Nat) (es : List EnvEvent) (s : State) :
    (elapseExact k es s).ram = s.ram := elapseExact_keeps _ ticks_ram applyEvent_ram k es s

@[simp] theorem elapse_ram (c : Byte) (n : Nat) (es : List EnvEvent) (s : State) :
    (elapse c n es s).ram = s.ram := elapse_keeps _ ticks_ram applyEvent_ram c n es s

@[simp] theorem waitTicks_ram (n : Nat) (s : State) : (waitTicks n s).ram = s.ram := by
  obtain ⟨k, -, h⟩ := waitTicks_eq n s
  rw [h, ticks_ram]

@[simp] theorem elapseFree_prog (es : List EnvEvent) (s : State) :
    (elapseFree es s).prog = s.prog := elapseBy_keeps _ ticks_prog applyEvent_prog es s

@[simp] theorem elapseExact_prog (k : Nat) (es : List EnvEvent) (s : State) :
    (elapseExact k es s).prog = s.prog := elapseExact_keeps _ ticks_prog applyEvent_prog k es s

@[simp] theorem elapse_prog (c : Byte) (n : Nat) (es : List EnvEvent) (s : State) :
    (elapse c n es s).prog = s.prog := elapse_keeps _ ticks_prog applyEvent_prog c n es s

@[simp] theorem waitTicks_prog (n : Nat) (s : State) : (waitTicks n s).prog = s.prog := by
  obtain ⟨k, -, h⟩ := waitTicks_eq n s
  rw [h, ticks_prog]

@[simp] theorem elapseFree_data (es : List EnvEvent) (s : State) :
    (elapseFree es s).data = s.data := elapseBy_keeps _ ticks_data applyEvent_data es s

@[simp] theorem elapseExact_data (k : Nat) (es : List EnvEvent) (s : State) :
    (elapseExact k es s).data = s.data := elapseExact_keeps _ ticks_data applyEvent_data k es s

@[simp] theorem elapse_data (c : Byte) (n : Nat) (es : List EnvEvent) (s : State) :
    (elapse c n es s).data = s.data := elapse_keeps _ ticks_data applyEvent_data c n es s

@[simp] theorem waitTicks_data (n : Nat) (s : State) : (waitTicks n s).data = s.data := by
  obtain ⟨k, -, h⟩ := waitTicks_eq n s
  rw [h, ticks_data]

@[simp] theorem elapseFree_pc (es : List EnvEvent) (s : State) :
    (elapseFree es s).pc = s.pc := elapseBy_keeps _ ticks_pc applyEvent_pc es s

@[simp] theorem elapseExact_pc (k : Nat) (es : List EnvEvent) (s : State) :
    (elapseExact k es s).pc = s.pc := elapseExact_keeps _ ticks_pc applyEvent_pc k es s

@[simp] theorem elapse_pc (c : Byte) (n : Nat) (es : List EnvEvent) (s : State) :
    (elapse c n es s).pc = s.pc := elapse_keeps _ ticks_pc applyEvent_pc c n es s

@[simp] theorem waitTicks_pc (n : Nat) (s : State) : (waitTicks n s).pc = s.pc := by
  obtain ⟨k, -, h⟩ := waitTicks_eq n s
  rw [h, ticks_pc]

@[simp] theorem elapseFree_flags (es : List EnvEvent) (s : State) :
    (elapseFree es s).flags = s.flags := elapseBy_keeps _ ticks_flags applyEvent_flags es s

@[simp] theorem elapseExact_flags (k : Nat) (es : List EnvEvent) (s : State) :
    (elapseExact k es s).flags = s.flags := elapseExact_keeps _ ticks_flags applyEvent_flags k es s

@[simp] theorem elapse_flags (c : Byte) (n : Nat) (es : List EnvEvent) (s : State) :
    (elapse c n es s).flags = s.flags := elapse_keeps _ ticks_flags applyEvent_flags c n es s

@[simp] theorem waitTicks_flags (n : Nat) (s : State) : (waitTicks n s).flags = s.flags := by
  obtain ⟨k, -, h⟩ := waitTicks_eq n s
  rw [h, ticks_flags]

@[simp] theorem elapseFree_sp (es : List EnvEvent) (s : State) :
    (elapseFree es s).sp = s.sp := elapseBy_keeps _ ticks_sp applyEvent_sp es s

@[simp] theorem elapseExact_sp (k : Nat) (es : List EnvEvent) (s : State) :
    (elapseExact k es s).sp = s.sp := elapseExact_keeps _ ticks_sp applyEvent_sp k es s

@[simp] theorem elapse_sp (c : Byte) (n : Nat) (es : List EnvEvent) (s : State) :
    (elapse c n es s).sp = s.sp := elapse_keeps _ ticks_sp applyEvent_sp c n es s

@[simp] theorem waitTicks_sp (n : Nat) (s : State) : (waitTicks n s).sp = s.sp := by
  obtain ⟨k, -, h⟩ := waitTicks_eq n s
  rw [h, ticks_sp]

@[simp] theorem elapseFree_sym (es : List EnvEvent) (s : State) :
    (elapseFree es s).sym = s.sym := elapseBy_keeps _ ticks_sym applyEvent_sym es s

@[simp] theorem elapseExact_sym (k : Nat) (es : List EnvEvent) (s : State) :
    (elapseExact k es s).sym = s.sym := elapseExact_keeps _ ticks_sym applyEvent_sym k es s

@[simp] theorem elapse_sym (c : Byte) (n : Nat) (es : List EnvEvent) (s : State) :
    (elapse c n es s).sym = s.sym := elapse_keeps _ ticks_sym applyEvent_sym c n es s

@[simp] theorem waitTicks_sym (n : Nat) (s : State) : (waitTicks n s).sym = s.sym := by
  obtain ⟨k, -, h⟩ := waitTicks_eq n s
  rw [h, ticks_sym]

@[simp] theorem elapseFree_mode (es : List EnvEvent) (s : State) :
    (elapseFree es s).mode = s.mode := elapseBy_keeps _ ticks_mode applyEvent_mode es s

@[simp] theorem elapseExact_mode (k : Nat) (es : List EnvEvent) (s : State) :
    (elapseExact k es s).mode = s.mode := elapseExact_keeps _ ticks_mode applyEvent_mode k es s

@[simp] theorem elapse_mode (c : Byte) (n : Nat) (es : List EnvEvent) (s : State) :
    (elapse c n es s).mode = s.mode := elapse_keeps _ ticks_mode applyEvent_mode c n es s

@[simp] theorem waitTicks_mode (n : Nat) (s : State) : (waitTicks n s).mode = s.mode := by
  obtain ⟨k, -, h⟩ := waitTicks_eq n s
  rw [h, ticks_mode]

@[simp] theorem elapseFree_clkcon (es : List EnvEvent) (s : State) :
    (elapseFree es s).clkcon = s.clkcon := elapseBy_keeps _ ticks_clkcon applyEvent_clkcon es s

@[simp] theorem elapseExact_clkcon (k : Nat) (es : List EnvEvent) (s : State) :
    (elapseExact k es s).clkcon = s.clkcon := elapseExact_keeps _ ticks_clkcon applyEvent_clkcon k es s

@[simp] theorem elapse_clkcon (c : Byte) (n : Nat) (es : List EnvEvent) (s : State) :
    (elapse c n es s).clkcon = s.clkcon := elapse_keeps _ ticks_clkcon applyEvent_clkcon c n es s

@[simp] theorem waitTicks_clkcon (n : Nat) (s : State) : (waitTicks n s).clkcon = s.clkcon := by
  obtain ⟨k, -, h⟩ := waitTicks_eq n s
  rw [h, ticks_clkcon]

@[simp] theorem elapseFree_stopcon (es : List EnvEvent) (s : State) :
    (elapseFree es s).stopcon = s.stopcon := elapseBy_keeps _ ticks_stopcon applyEvent_stopcon es s

@[simp] theorem elapseExact_stopcon (k : Nat) (es : List EnvEvent) (s : State) :
    (elapseExact k es s).stopcon = s.stopcon := elapseExact_keeps _ ticks_stopcon applyEvent_stopcon k es s

@[simp] theorem elapse_stopcon (c : Byte) (n : Nat) (es : List EnvEvent) (s : State) :
    (elapse c n es s).stopcon = s.stopcon := elapse_keeps _ ticks_stopcon applyEvent_stopcon c n es s

@[simp] theorem waitTicks_stopcon (n : Nat) (s : State) : (waitTicks n s).stopcon = s.stopcon := by
  obtain ⟨k, -, h⟩ := waitTicks_eq n s
  rw [h, ticks_stopcon]

@[simp] theorem elapseFree_mdsreg (es : List EnvEvent) (s : State) :
    (elapseFree es s).mdsreg = s.mdsreg := elapseBy_keeps _ ticks_mdsreg applyEvent_mdsreg es s

@[simp] theorem elapseExact_mdsreg (k : Nat) (es : List EnvEvent) (s : State) :
    (elapseExact k es s).mdsreg = s.mdsreg := elapseExact_keeps _ ticks_mdsreg applyEvent_mdsreg k es s

@[simp] theorem elapse_mdsreg (c : Byte) (n : Nat) (es : List EnvEvent) (s : State) :
    (elapse c n es s).mdsreg = s.mdsreg := elapse_keeps _ ticks_mdsreg applyEvent_mdsreg c n es s

@[simp] theorem waitTicks_mdsreg (n : Nat) (s : State) : (waitTicks n s).mdsreg = s.mdsreg := by
  obtain ⟨k, -, h⟩ := waitTicks_eq n s
  rw [h, ticks_mdsreg]

@[simp] theorem elapseFree_ftstcon (es : List EnvEvent) (s : State) :
    (elapseFree es s).ftstcon = s.ftstcon := elapseBy_keeps _ ticks_ftstcon applyEvent_ftstcon es s

@[simp] theorem elapseExact_ftstcon (k : Nat) (es : List EnvEvent) (s : State) :
    (elapseExact k es s).ftstcon = s.ftstcon := elapseExact_keeps _ ticks_ftstcon applyEvent_ftstcon k es s

@[simp] theorem elapse_ftstcon (c : Byte) (n : Nat) (es : List EnvEvent) (s : State) :
    (elapse c n es s).ftstcon = s.ftstcon := elapse_keeps _ ticks_ftstcon applyEvent_ftstcon c n es s

@[simp] theorem waitTicks_ftstcon (n : Nat) (s : State) : (waitTicks n s).ftstcon = s.ftstcon := by
  obtain ⟨k, -, h⟩ := waitTicks_eq n s
  rw [h, ticks_ftstcon]

@[simp] theorem elapseFree_cfg (es : List EnvEvent) (s : State) :
    (elapseFree es s).cfg = s.cfg := elapseBy_keeps _ ticks_cfg applyEvent_cfg es s

@[simp] theorem elapseExact_cfg (k : Nat) (es : List EnvEvent) (s : State) :
    (elapseExact k es s).cfg = s.cfg := elapseExact_keeps _ ticks_cfg applyEvent_cfg k es s

@[simp] theorem elapse_cfg (c : Byte) (n : Nat) (es : List EnvEvent) (s : State) :
    (elapse c n es s).cfg = s.cfg := elapse_keeps _ ticks_cfg applyEvent_cfg c n es s

@[simp] theorem waitTicks_cfg (n : Nat) (s : State) : (waitTicks n s).cfg = s.cfg := by
  obtain ⟨k, -, h⟩ := waitTicks_eq n s
  rw [h, ticks_cfg]

@[simp] theorem elapseFree_inputs (es : List EnvEvent) (s : State) :
    (elapseFree es s).inputs = s.inputs := elapseBy_keeps _ ticks_inputs applyEvent_inputs es s

@[simp] theorem elapseExact_inputs (k : Nat) (es : List EnvEvent) (s : State) :
    (elapseExact k es s).inputs = s.inputs := elapseExact_keeps _ ticks_inputs applyEvent_inputs k es s

@[simp] theorem elapse_inputs (c : Byte) (n : Nat) (es : List EnvEvent) (s : State) :
    (elapse c n es s).inputs = s.inputs := elapse_keeps _ ticks_inputs applyEvent_inputs c n es s

@[simp] theorem waitTicks_inputs (n : Nat) (s : State) : (waitTicks n s).inputs = s.inputs := by
  obtain ⟨k, -, h⟩ := waitTicks_eq n s
  rw [h, ticks_inputs]

/-! ### Reset -/

@[simp] theorem doReset_prog (src : ResetSource) (s : State) :
    (doReset src s).prog = s.prog := rfl

@[simp] theorem doReset_data (src : ResetSource) (s : State) :
    (doReset src s).data = s.data := rfl

@[simp] theorem doReset_clo (src : ResetSource) (s : State) :
    (doReset src s).clo = s.clo := rfl

@[simp] theorem doReset_pins (src : ResetSource) (s : State) :
    (doReset src s).pins = { s.pins with resetSeen := false } := rfl

@[simp] theorem doReset_cfg (src : ResetSource) (s : State) :
    (doReset src s).cfg = s.cfg := rfl

@[simp] theorem doReset_inputs (src : ResetSource) (s : State) :
    (doReset src s).inputs = s.inputs := rfl

/-- In STOP mode the oscillator does not run. -/
theorem ticks_stop (n : Nat) (s : State) (h : s.mode = .stop) : ticks n s = s := by
  induction n with
  | zero => rfl
  | succ n ih => simp [ticks, tick, h, ih]

/-- One more period after `n`. -/
theorem ticks_succ' (n : Nat) (s : State) : ticks (n + 1) s = tick (ticks n s) := by
  induction n generalizing s with
  | zero => rfl
  | succ n ih => rw [ticks, ih]; rfl

/-- Periods add up. -/
theorem ticks_add (m n : Nat) (s : State) : ticks (m + n) s = ticks n (ticks m s) := by
  induction m generalizing s with
  | zero => simp [ticks]
  | succ m ih => rw [Nat.succ_add, ticks, ticks, ih]

/-- What a period does to a running machine, agent by agent. -/
theorem tick_running {s : State} (h : s.mode ≠ .stop) :
    tick s = cloStep (adcStep (pwmStep (t0Step (btStep { s with div := s.div + 1 })))) := by
  unfold tick; split
  · exact absurd ‹_› h
  · rfl

theorem tick_div {s : State} (h : s.mode ≠ .stop) : (tick s).div = s.div + 1 := by
  rw [tick_running h]; simp

theorem tick_bt {s : State} (h : s.mode ≠ .stop) :
    (tick s).bt = if tapFires (s.div + 1) (btDivider s.bt.con) then btTick s.bt else s.bt := by
  rw [tick_running h]
  simp only [cloStep_bt, adcStep_bt, pwmStep_bt, t0Step_bt]
  unfold btStep
  split <;> rfl

theorem tick_t0 {s : State} (h : s.mode ≠ .stop) :
    (tick s).t0 = if tapFires (s.div + 1) (t0Divider s.t0.con) then t0Tick s.cfg s.t0
      else s.t0 := by
  rw [tick_running h]
  simp only [cloStep_t0, adcStep_t0, pwmStep_t0]
  unfold t0Step
  simp only [btStep_div, btStep_t0, btStep_cfg]
  split <;> simp

theorem tick_pwm {s : State} (h : s.mode ≠ .stop) :
    (tick s).pwm = if s.pwm.con.getLsbD 2 && tapFires (s.div + 1) (pwmDivider s.pwm.con) then
      pwmTick s.cfg s.pwm else s.pwm := by
  rw [tick_running h]
  simp only [cloStep_pwm, adcStep_pwm]
  unfold pwmStep
  simp only [t0Step_div, btStep_div, t0Step_pwm, btStep_pwm, t0Step_cfg, btStep_cfg]
  split <;> simp

/-- While a conversion has more than one period to go, a period takes one off. -/
theorem tick_adc_busy {s : State} (h : s.mode ≠ .stop) (hb : s.adc.busy = true)
    (ht : 1 < s.adc.timer) : (tick s).adc = { s.adc with timer := s.adc.timer - 1 } := by
  rw [tick_running h]
  simp only [cloStep_adc]
  unfold adcStep
  simp only [pwmStep_adc, t0Step_adc, btStep_adc, hb, if_true, if_neg (by omega : ¬s.adc.timer ≤ 1)]

/-- An idle converter stays as it is. -/
theorem tick_adc_idle {s : State} (h : s.mode ≠ .stop) (hb : s.adc.busy = false) :
    (tick s).adc = s.adc := by
  rw [tick_running h]
  simp only [cloStep_adc]
  unfold adcStep
  simp [pwmStep_adc, t0Step_adc, btStep_adc, hb]

end Sys2Proof.Machine
end

