-- ==== Sys2Proof/Laws/Fields.lean ====
section
/-! SUPPORT. The laws of the bit fields: what is packed is read back. -/

namespace Sys2Proof

@[simp] theorem hiNibble_nibbles (h l : BitVec 4) : hiNibble (nibbles h l) = h := by
  revert h l; decide

@[simp] theorem loNibble_nibbles (h l : BitVec 4) : loNibble (nibbles h l) = l := by
  revert h l; decide

@[simp] theorem nibbles_hi_lo (b : Byte) : nibbles (hiNibble b) (loNibble b) = b := by
  revert b; decide

@[simp] theorem pairOf_pairNibble (p : Pair) (d : Bool) : pairOf (pairNibble p d) = p := by
  revert p d; decide

@[simp] theorem spaceOf_pairNibble (p : Pair) (d : Bool) : spaceOf (pairNibble p d) = d := by
  revert p d; decide

@[simp] theorem pairNibble_pairOf (b : BitVec 4) : pairNibble (pairOf b) (spaceOf b) = b := by
  revert b; decide

@[simp] theorem ofCode_code (cc : Cond) : Cond.ofCode cc.code = cc := by
  cases cc <;> rfl

@[simp] theorem code_ofCode (b : BitVec 4) : (Cond.ofCode b).code = b := by
  revert b; decide

theorem wordOf_toNat (h l : Byte) : (wordOf h l).toNat = h.toNat * 256 + l.toNat := by
  show (h ++ l : BitVec (8 + 8)).toNat = _
  rw [BitVec.toNat_append, ← Nat.shiftLeft_add_eq_or_of_lt l.isLt, Nat.shiftLeft_eq]

theorem hiByte_toNat (w : Word) : (hiByte w).toNat = w.toNat / 256 := by
  have := w.isLt
  simp only [hiByte, BitVec.extractLsb'_toNat, Nat.shiftRight_eq_div_pow]
  omega

theorem loByte_toNat (w : Word) : (loByte w).toNat = w.toNat % 256 := by
  simp [loByte, BitVec.extractLsb'_toNat]

@[simp] theorem wordOf_hi_lo (w : Word) : wordOf (hiByte w) (loByte w) = w := by
  apply BitVec.eq_of_toNat_eq
  rw [wordOf_toNat, hiByte_toNat, loByte_toNat]
  omega

@[simp] theorem hiByte_wordOf (h l : Byte) : hiByte (wordOf h l) = h := by
  apply BitVec.eq_of_toNat_eq
  have := l.isLt
  rw [hiByte_toNat, wordOf_toNat]
  omega

@[simp] theorem loByte_wordOf (h l : Byte) : loByte (wordOf h l) = l := by
  apply BitVec.eq_of_toNat_eq
  have := l.isLt
  rw [loByte_toNat, wordOf_toNat]
  omega

/-! ### Decoding -/

/-- Everything `decode` does, by the first byte. -/
theorem decode_cons (b1 : Byte) (tail : List Byte) :
    decode (b1 :: tail) =
      match decodeBytes b1 (byteAt tail 0) (byteAt tail 1) (byteAt tail 2) with
      | none => .undefinedOpcode b1
      | some i => if tail.length + 1 < i.length then .truncated else .instr i := by
  unfold decode
  rfl

/-- Everything `decode` does where there are two bytes. -/
theorem decode_cons_cons (b1 b2 : Byte) (tail : List Byte) :
    decode (b1 :: b2 :: tail) =
      match decodeBytes b1 b2 (byteAt tail 0) (byteAt tail 1) with
      | none => .undefinedOpcode b1
      | some i => if tail.length + 2 < i.length then .truncated else .instr i := by
  rw [decode_cons]; rfl

/-- The length of what the decoder reads does not depend on the bytes after the first. -/
theorem decodeBytes_length (b1 b2 b3 b4 : Byte) :
    (decodeBytes b1 b2 b3 b4).map Instr.length = (decodeBytes b1 0 0 0).map Instr.length := by
  unfold decodeBytes
  split <;> try simp only [decodeColumn0, decodeColumn1, decodeColumn2, decodeColumn3, decodeColumn4,
    decodeColumn5, decodeColumn6, decodeColumn7, decodeColumnF, decodeLongLoad, decodeLongStore]
  all_goals first | rfl | (split <;> first | rfl | (split_ifs <;> rfl))

set_option maxRecDepth 10000 in
/-- The length that the first byte fixes is the length of what it decodes to, and a first byte that
fixes none decodes to nothing, whatever follows. -/
theorem opLength_eq (b1 b2 b3 b4 : Byte) :
    opLength b1 = (decodeBytes b1 b2 b3 b4).map Instr.length := by
  rw [decodeBytes_length]
  revert b1
  decide

end Sys2Proof
end

