-- ==== Sys2Proof/Laws/PerInstr.lean ====
section
/-! SUPPORT. The family `EncodedLength`: the length that the first byte of an encoding fixes (R104)
is the number of bytes encoded and the length of the instruction. One lemma per constructor. -/

namespace Sys2Proof.Laws.EncodedLength

/-- The first byte of the encoding fixes its length (R104). -/
def Statement (i : Instr) : Prop :=
  (encode i).length = i.length ∧ (encode i).head?.bind opLength = some i.length

theorem opLength_nibbles (l : BitVec 4) (n : Nat) (h : ∀ r, opLength (nibbles r l) = some n)
    (r : BitVec 4) (bs : List Byte) :
    (nibbles r l :: bs).head?.bind opLength = some n := by
  simpa using h r

theorem add_r_r (dst : WReg) (src : WReg) : Statement (.add_r_r dst src) := ⟨rfl, rfl⟩

theorem add_r_Ir (dst : WReg) (src : WReg) : Statement (.add_r_Ir dst src) := ⟨rfl, rfl⟩

theorem add_R_R (dst : Byte) (src : Byte) : Statement (.add_R_R dst src) := ⟨rfl, rfl⟩

theorem add_R_IR (dst : Byte) (src : Byte) : Statement (.add_R_IR dst src) := ⟨rfl, rfl⟩

theorem add_R_IM (dst : Byte) (imm : Byte) : Statement (.add_R_IM dst imm) := ⟨rfl, rfl⟩

theorem adc_r_r (dst : WReg) (src : WReg) : Statement (.adc_r_r dst src) := ⟨rfl, rfl⟩

theorem adc_r_Ir (dst : WReg) (src : WReg) : Statement (.adc_r_Ir dst src) := ⟨rfl, rfl⟩

theorem adc_R_R (dst : Byte) (src : Byte) : Statement (.adc_R_R dst src) := ⟨rfl, rfl⟩

theorem adc_R_IR (dst : Byte) (src : Byte) : Statement (.adc_R_IR dst src) := ⟨rfl, rfl⟩

theorem adc_R_IM (dst : Byte) (imm : Byte) : Statement (.adc_R_IM dst imm) := ⟨rfl, rfl⟩

theorem sub_r_r (dst : WReg) (src : WReg) : Statement (.sub_r_r dst src) := ⟨rfl, rfl⟩

theorem sub_r_Ir (dst : WReg) (src : WReg) : Statement (.sub_r_Ir dst src) := ⟨rfl, rfl⟩

theorem sub_R_R (dst : Byte) (src : Byte) : Statement (.sub_R_R dst src) := ⟨rfl, rfl⟩

theorem sub_R_IR (dst : Byte) (src : Byte) : Statement (.sub_R_IR dst src) := ⟨rfl, rfl⟩

theorem sub_R_IM (dst : Byte) (imm : Byte) : Statement (.sub_R_IM dst imm) := ⟨rfl, rfl⟩

theorem sbc_r_r (dst : WReg) (src : WReg) : Statement (.sbc_r_r dst src) := ⟨rfl, rfl⟩

theorem sbc_r_Ir (dst : WReg) (src : WReg) : Statement (.sbc_r_Ir dst src) := ⟨rfl, rfl⟩

theorem sbc_R_R (dst : Byte) (src : Byte) : Statement (.sbc_R_R dst src) := ⟨rfl, rfl⟩

theorem sbc_R_IR (dst : Byte) (src : Byte) : Statement (.sbc_R_IR dst src) := ⟨rfl, rfl⟩

theorem sbc_R_IM (dst : Byte) (imm : Byte) : Statement (.sbc_R_IM dst imm) := ⟨rfl, rfl⟩

theorem or_r_r (dst : WReg) (src : WReg) : Statement (.or_r_r dst src) := ⟨rfl, rfl⟩

theorem or_r_Ir (dst : WReg) (src : WReg) : Statement (.or_r_Ir dst src) := ⟨rfl, rfl⟩

theorem or_R_R (dst : Byte) (src : Byte) : Statement (.or_R_R dst src) := ⟨rfl, rfl⟩

theorem or_R_IR (dst : Byte) (src : Byte) : Statement (.or_R_IR dst src) := ⟨rfl, rfl⟩

theorem or_R_IM (dst : Byte) (imm : Byte) : Statement (.or_R_IM dst imm) := ⟨rfl, rfl⟩

theorem and_r_r (dst : WReg) (src : WReg) : Statement (.and_r_r dst src) := ⟨rfl, rfl⟩

theorem and_r_Ir (dst : WReg) (src : WReg) : Statement (.and_r_Ir dst src) := ⟨rfl, rfl⟩

theorem and_R_R (dst : Byte) (src : Byte) : Statement (.and_R_R dst src) := ⟨rfl, rfl⟩

theorem and_R_IR (dst : Byte) (src : Byte) : Statement (.and_R_IR dst src) := ⟨rfl, rfl⟩

theorem and_R_IM (dst : Byte) (imm : Byte) : Statement (.and_R_IM dst imm) := ⟨rfl, rfl⟩

theorem tcm_r_r (dst : WReg) (src : WReg) : Statement (.tcm_r_r dst src) := ⟨rfl, rfl⟩

theorem tcm_r_Ir (dst : WReg) (src : WReg) : Statement (.tcm_r_Ir dst src) := ⟨rfl, rfl⟩

theorem tcm_R_R (dst : Byte) (src : Byte) : Statement (.tcm_R_R dst src) := ⟨rfl, rfl⟩

theorem tcm_R_IR (dst : Byte) (src : Byte) : Statement (.tcm_R_IR dst src) := ⟨rfl, rfl⟩

theorem tcm_R_IM (dst : Byte) (imm : Byte) : Statement (.tcm_R_IM dst imm) := ⟨rfl, rfl⟩

theorem tm_r_r (dst : WReg) (src : WReg) : Statement (.tm_r_r dst src) := ⟨rfl, rfl⟩

theorem tm_r_Ir (dst : WReg) (src : WReg) : Statement (.tm_r_Ir dst src) := ⟨rfl, rfl⟩

theorem tm_R_R (dst : Byte) (src : Byte) : Statement (.tm_R_R dst src) := ⟨rfl, rfl⟩

theorem tm_R_IR (dst : Byte) (src : Byte) : Statement (.tm_R_IR dst src) := ⟨rfl, rfl⟩

theorem tm_R_IM (dst : Byte) (imm : Byte) : Statement (.tm_R_IM dst imm) := ⟨rfl, rfl⟩

theorem cp_r_r (dst : WReg) (src : WReg) : Statement (.cp_r_r dst src) := ⟨rfl, rfl⟩

theorem cp_r_Ir (dst : WReg) (src : WReg) : Statement (.cp_r_Ir dst src) := ⟨rfl, rfl⟩

theorem cp_R_R (dst : Byte) (src : Byte) : Statement (.cp_R_R dst src) := ⟨rfl, rfl⟩

theorem cp_R_IR (dst : Byte) (src : Byte) : Statement (.cp_R_IR dst src) := ⟨rfl, rfl⟩

theorem cp_R_IM (dst : Byte) (imm : Byte) : Statement (.cp_R_IM dst imm) := ⟨rfl, rfl⟩

theorem xor_r_r (dst : WReg) (src : WReg) : Statement (.xor_r_r dst src) := ⟨rfl, rfl⟩

theorem xor_r_Ir (dst : WReg) (src : WReg) : Statement (.xor_r_Ir dst src) := ⟨rfl, rfl⟩

theorem xor_R_R (dst : Byte) (src : Byte) : Statement (.xor_R_R dst src) := ⟨rfl, rfl⟩

theorem xor_R_IR (dst : Byte) (src : Byte) : Statement (.xor_R_IR dst src) := ⟨rfl, rfl⟩

theorem xor_R_IM (dst : Byte) (imm : Byte) : Statement (.xor_R_IM dst imm) := ⟨rfl, rfl⟩

theorem dec_R (dst : Byte) : Statement (.dec_R dst) := ⟨rfl, rfl⟩

theorem dec_IR (dst : Byte) : Statement (.dec_IR dst) := ⟨rfl, rfl⟩

theorem rlc_R (dst : Byte) : Statement (.rlc_R dst) := ⟨rfl, rfl⟩

theorem rlc_IR (dst : Byte) : Statement (.rlc_IR dst) := ⟨rfl, rfl⟩

theorem inc_R (dst : Byte) : Statement (.inc_R dst) := ⟨rfl, rfl⟩

theorem inc_IR (dst : Byte) : Statement (.inc_IR dst) := ⟨rfl, rfl⟩

theorem pop_R (dst : Byte) : Statement (.pop_R dst) := ⟨rfl, rfl⟩

theorem pop_IR (dst : Byte) : Statement (.pop_IR dst) := ⟨rfl, rfl⟩

theorem com_R (dst : Byte) : Statement (.com_R dst) := ⟨rfl, rfl⟩

theorem com_IR (dst : Byte) : Statement (.com_IR dst) := ⟨rfl, rfl⟩

theorem push_R (src : Byte) : Statement (.push_R src) := ⟨rfl, rfl⟩

theorem push_IR (src : Byte) : Statement (.push_IR src) := ⟨rfl, rfl⟩

theorem rl_R (dst : Byte) : Statement (.rl_R dst) := ⟨rfl, rfl⟩

theorem rl_IR (dst : Byte) : Statement (.rl_IR dst) := ⟨rfl, rfl⟩

theorem clr_R (dst : Byte) : Statement (.clr_R dst) := ⟨rfl, rfl⟩

theorem clr_IR (dst : Byte) : Statement (.clr_IR dst) := ⟨rfl, rfl⟩

theorem rrc_R (dst : Byte) : Statement (.rrc_R dst) := ⟨rfl, rfl⟩

theorem rrc_IR (dst : Byte) : Statement (.rrc_IR dst) := ⟨rfl, rfl⟩

theorem sra_R (dst : Byte) : Statement (.sra_R dst) := ⟨rfl, rfl⟩

theorem sra_IR (dst : Byte) : Statement (.sra_IR dst) := ⟨rfl, rfl⟩

theorem rr_R (dst : Byte) : Statement (.rr_R dst) := ⟨rfl, rfl⟩

theorem rr_IR (dst : Byte) : Statement (.rr_IR dst) := ⟨rfl, rfl⟩

theorem inc_r (dst : WReg) : Statement (.inc_r dst) := ⟨rfl, opLength_nibbles 0xE 1 (by decide) _ _⟩

theorem jp_IRR (a : Byte) : Statement (.jp_IRR a) := ⟨rfl, rfl⟩

theorem jp_cc_DA (cc : Cond) (da : Word) : Statement (.jp_cc_DA cc da) :=
  ⟨rfl, opLength_nibbles 0xD 3 (by decide) _ _⟩

theorem jr_cc_RA (cc : Cond) (off : Byte) : Statement (.jr_cc_RA cc off) :=
  ⟨rfl, opLength_nibbles 0xB 2 (by decide) _ _⟩

theorem call_IRR (a : Byte) : Statement (.call_IRR a) := ⟨rfl, rfl⟩

theorem call_DA (da : Word) : Statement (.call_DA da) := ⟨rfl, rfl⟩

theorem ld_r_IM (dst : WReg) (imm : Byte) : Statement (.ld_r_IM dst imm) :=
  ⟨rfl, opLength_nibbles 0xC 2 (by decide) _ _⟩

theorem ld_r_R (dst : WReg) (src : Byte) : Statement (.ld_r_R dst src) :=
  ⟨rfl, opLength_nibbles 0x8 2 (by decide) _ _⟩

theorem ld_R_r (dst : Byte) (src : WReg) : Statement (.ld_R_r dst src) :=
  ⟨rfl, opLength_nibbles 0x9 2 (by decide) _ _⟩

theorem ld_r_Ir (dst : WReg) (src : WReg) : Statement (.ld_r_Ir dst src) := ⟨rfl, rfl⟩

theorem ld_Ir_r (dst : WReg) (src : WReg) : Statement (.ld_Ir_r dst src) := ⟨rfl, rfl⟩

theorem ld_R_R (dst : Byte) (src : Byte) : Statement (.ld_R_R dst src) := ⟨rfl, rfl⟩

theorem ld_R_IR (dst : Byte) (src : Byte) : Statement (.ld_R_IR dst src) := ⟨rfl, rfl⟩

theorem ld_R_IM (dst : Byte) (imm : Byte) : Statement (.ld_R_IM dst imm) := ⟨rfl, rfl⟩

theorem ld_IR_IM (dst : Byte) (imm : Byte) : Statement (.ld_IR_IM dst imm) := ⟨rfl, rfl⟩

theorem ld_IR_R (dst : Byte) (src : Byte) : Statement (.ld_IR_R dst src) := ⟨rfl, rfl⟩

theorem ld_r_X (dst : WReg) (x : Byte) (idx : WReg) : Statement (.ld_r_X dst x idx) := ⟨rfl, rfl⟩

theorem ld_X_r (x : Byte) (idx : WReg) (src : WReg) : Statement (.ld_X_r x idx src) := ⟨rfl, rfl⟩

theorem ldc_r_Irr (dst : WReg) (p : Pair) : Statement (.ldc_r_Irr dst p) := ⟨rfl, rfl⟩

theorem ldc_Irr_r (p : Pair) (src : WReg) : Statement (.ldc_Irr_r p src) := ⟨rfl, rfl⟩

theorem ldc_r_XS (dst : WReg) (xs : Byte) (p : Pair) : Statement (.ldc_r_XS dst xs p) := ⟨rfl, rfl⟩

theorem ldc_XS_r (xs : Byte) (p : Pair) (src : WReg) : Statement (.ldc_XS_r xs p src) := ⟨rfl, rfl⟩

theorem ldc_r_XL (dst : WReg) (xl : Word) (p : Pair) : Statement (.ldc_r_XL dst xl p) := ⟨rfl, rfl⟩

theorem ldc_XL_r (xl : Word) (p : Pair) (src : WReg) : Statement (.ldc_XL_r xl p src) := ⟨rfl, rfl⟩

theorem ldc_r_DA (dst : WReg) (da : Word) : Statement (.ldc_r_DA dst da) := ⟨rfl, rfl⟩

theorem ldc_DA_r (da : Word) (src : WReg) : Statement (.ldc_DA_r da src) := ⟨rfl, rfl⟩

theorem lde_r_Irr (dst : WReg) (p : Pair) : Statement (.lde_r_Irr dst p) := ⟨rfl, rfl⟩

theorem lde_Irr_r (p : Pair) (src : WReg) : Statement (.lde_Irr_r p src) := ⟨rfl, rfl⟩

theorem lde_r_XS (dst : WReg) (xs : Byte) (p : Pair) : Statement (.lde_r_XS dst xs p) := ⟨rfl, rfl⟩

theorem lde_XS_r (xs : Byte) (p : Pair) (src : WReg) : Statement (.lde_XS_r xs p src) := ⟨rfl, rfl⟩

theorem lde_r_XL (dst : WReg) (xl : Word) (p : Pair) : Statement (.lde_r_XL dst xl p) := ⟨rfl, rfl⟩

theorem lde_XL_r (xl : Word) (p : Pair) (src : WReg) : Statement (.lde_XL_r xl p src) := ⟨rfl, rfl⟩

theorem lde_r_DA (dst : WReg) (da : Word) : Statement (.lde_r_DA dst da) := ⟨rfl, rfl⟩

theorem lde_DA_r (da : Word) (src : WReg) : Statement (.lde_DA_r da src) := ⟨rfl, rfl⟩

theorem ldcd_r_Irr (dst : WReg) (p : Pair) : Statement (.ldcd_r_Irr dst p) := ⟨rfl, rfl⟩

theorem lded_r_Irr (dst : WReg) (p : Pair) : Statement (.lded_r_Irr dst p) := ⟨rfl, rfl⟩

theorem ldci_r_Irr (dst : WReg) (p : Pair) : Statement (.ldci_r_Irr dst p) := ⟨rfl, rfl⟩

theorem ldei_r_Irr (dst : WReg) (p : Pair) : Statement (.ldei_r_Irr dst p) := ⟨rfl, rfl⟩

theorem idle : Statement .idle := ⟨rfl, rfl⟩

theorem stop : Statement .stop := ⟨rfl, rfl⟩

theorem di : Statement .di := ⟨rfl, rfl⟩

theorem ei : Statement .ei := ⟨rfl, rfl⟩

theorem ret : Statement .ret := ⟨rfl, rfl⟩

theorem iret : Statement .iret := ⟨rfl, rfl⟩

theorem rcf : Statement .rcf := ⟨rfl, rfl⟩

theorem scf : Statement .scf := ⟨rfl, rfl⟩

theorem ccf : Statement .ccf := ⟨rfl, rfl⟩

theorem nop : Statement .nop := ⟨rfl, rfl⟩

end Sys2Proof.Laws.EncodedLength
end

