-- ==== Sys2Proof/Tests/Slice0.lean ====
section
/-! SUPPORT. The model's own tests, each a named theorem that the kernel evaluates: the smoke test of
WellFormed, a word of every constructor written out from its encoding, one step of the worked
examples of 95_test_vectors.md, and for every obligation with hypotheses a state and operands that
meet them. -/

namespace Sys2Proof.Tests

open Sys2Proof.Machine

/-! ### WellFormed: in A7 and B7 the pair nibbles 0000 and 0001 are the direct forms (R103 (h)) -/

theorem test_illformed_ldc_load : (Instr.ldc_r_XL 0 0x1234 0).wellFormed = false := by decide

theorem test_illformed_ldc_store : (Instr.ldc_XL_r 0x1234 0 0).wellFormed = false := by decide

theorem test_illformed_lde_load : (Instr.lde_r_XL 0 0x1234 0).wellFormed = false := by decide

theorem test_illformed_lde_store : (Instr.lde_XL_r 0x1234 0 0).wellFormed = false := by decide

/-! ### Decoding: a word of every constructor, from R101, R103, R111, R112 and R131 to R145 -/

theorem test_decode_add :
    decode [0x02, 0x5A] = .instr (.add_r_r 5 10) ∧
    decode [0x03, 0xA5] = .instr (.add_r_Ir 10 5) ∧
    decode [0x04, 0x12, 0x34] = .instr (.add_R_R 0x34 0x12) ∧
    decode [0x05, 0x12, 0x34] = .instr (.add_R_IR 0x34 0x12) ∧
    decode [0x06, 0x12, 0x34] = .instr (.add_R_IM 0x12 0x34) := by decide

theorem test_decode_adc :
    decode [0x12, 0x5A] = .instr (.adc_r_r 5 10) ∧
    decode [0x13, 0xA5] = .instr (.adc_r_Ir 10 5) ∧
    decode [0x14, 0x12, 0x34] = .instr (.adc_R_R 0x34 0x12) ∧
    decode [0x15, 0x12, 0x34] = .instr (.adc_R_IR 0x34 0x12) ∧
    decode [0x16, 0x12, 0x34] = .instr (.adc_R_IM 0x12 0x34) := by decide

theorem test_decode_sub :
    decode [0x22, 0x5A] = .instr (.sub_r_r 5 10) ∧
    decode [0x23, 0xA5] = .instr (.sub_r_Ir 10 5) ∧
    decode [0x24, 0x12, 0x34] = .instr (.sub_R_R 0x34 0x12) ∧
    decode [0x25, 0x12, 0x34] = .instr (.sub_R_IR 0x34 0x12) ∧
    decode [0x26, 0x12, 0x34] = .instr (.sub_R_IM 0x12 0x34) := by decide

theorem test_decode_sbc :
    decode [0x32, 0x5A] = .instr (.sbc_r_r 5 10) ∧
    decode [0x33, 0xA5] = .instr (.sbc_r_Ir 10 5) ∧
    decode [0x34, 0x12, 0x34] = .instr (.sbc_R_R 0x34 0x12) ∧
    decode [0x35, 0x12, 0x34] = .instr (.sbc_R_IR 0x34 0x12) ∧
    decode [0x36, 0x12, 0x34] = .instr (.sbc_R_IM 0x12 0x34) := by decide

theorem test_decode_or :
    decode [0x42, 0x5A] = .instr (.or_r_r 5 10) ∧
    decode [0x43, 0xA5] = .instr (.or_r_Ir 10 5) ∧
    decode [0x44, 0x12, 0x34] = .instr (.or_R_R 0x34 0x12) ∧
    decode [0x45, 0x12, 0x34] = .instr (.or_R_IR 0x34 0x12) ∧
    decode [0x46, 0x12, 0x34] = .instr (.or_R_IM 0x12 0x34) := by decide

theorem test_decode_and :
    decode [0x52, 0x5A] = .instr (.and_r_r 5 10) ∧
    decode [0x53, 0xA5] = .instr (.and_r_Ir 10 5) ∧
    decode [0x54, 0x12, 0x34] = .instr (.and_R_R 0x34 0x12) ∧
    decode [0x55, 0x12, 0x34] = .instr (.and_R_IR 0x34 0x12) ∧
    decode [0x56, 0x12, 0x34] = .instr (.and_R_IM 0x12 0x34) := by decide

theorem test_decode_tcm :
    decode [0x62, 0x5A] = .instr (.tcm_r_r 5 10) ∧
    decode [0x63, 0xA5] = .instr (.tcm_r_Ir 10 5) ∧
    decode [0x64, 0x12, 0x34] = .instr (.tcm_R_R 0x34 0x12) ∧
    decode [0x65, 0x12, 0x34] = .instr (.tcm_R_IR 0x34 0x12) ∧
    decode [0x66, 0x12, 0x34] = .instr (.tcm_R_IM 0x12 0x34) := by decide

theorem test_decode_tm :
    decode [0x72, 0x5A] = .instr (.tm_r_r 5 10) ∧
    decode [0x73, 0xA5] = .instr (.tm_r_Ir 10 5) ∧
    decode [0x74, 0x12, 0x34] = .instr (.tm_R_R 0x34 0x12) ∧
    decode [0x75, 0x12, 0x34] = .instr (.tm_R_IR 0x34 0x12) ∧
    decode [0x76, 0x12, 0x34] = .instr (.tm_R_IM 0x12 0x34) := by decide

theorem test_decode_cp :
    decode [0xA2, 0x5A] = .instr (.cp_r_r 5 10) ∧
    decode [0xA3, 0xA5] = .instr (.cp_r_Ir 10 5) ∧
    decode [0xA4, 0x12, 0x34] = .instr (.cp_R_R 0x34 0x12) ∧
    decode [0xA5, 0x12, 0x34] = .instr (.cp_R_IR 0x34 0x12) ∧
    decode [0xA6, 0x12, 0x34] = .instr (.cp_R_IM 0x12 0x34) := by decide

theorem test_decode_xor :
    decode [0xB2, 0x5A] = .instr (.xor_r_r 5 10) ∧
    decode [0xB3, 0xA5] = .instr (.xor_r_Ir 10 5) ∧
    decode [0xB4, 0x12, 0x34] = .instr (.xor_R_R 0x34 0x12) ∧
    decode [0xB5, 0x12, 0x34] = .instr (.xor_R_IR 0x34 0x12) ∧
    decode [0xB6, 0x12, 0x34] = .instr (.xor_R_IM 0x12 0x34) := by decide

theorem test_decode_one_operand :
    decode [0x00, 0x9C] = .instr (.dec_R 0x9C) ∧
    decode [0x01, 0x9C] = .instr (.dec_IR 0x9C) ∧
    decode [0x10, 0x9C] = .instr (.rlc_R 0x9C) ∧
    decode [0x11, 0x9C] = .instr (.rlc_IR 0x9C) ∧
    decode [0x20, 0x9C] = .instr (.inc_R 0x9C) ∧
    decode [0x21, 0x9C] = .instr (.inc_IR 0x9C) ∧
    decode [0x50, 0x9C] = .instr (.pop_R 0x9C) ∧
    decode [0x51, 0x9C] = .instr (.pop_IR 0x9C) ∧
    decode [0x60, 0x9C] = .instr (.com_R 0x9C) ∧
    decode [0x61, 0x9C] = .instr (.com_IR 0x9C) ∧
    decode [0x70, 0x9C] = .instr (.push_R 0x9C) ∧
    decode [0x71, 0x9C] = .instr (.push_IR 0x9C) ∧
    decode [0x90, 0x9C] = .instr (.rl_R 0x9C) ∧
    decode [0x91, 0x9C] = .instr (.rl_IR 0x9C) ∧
    decode [0xB0, 0x9C] = .instr (.clr_R 0x9C) ∧
    decode [0xB1, 0x9C] = .instr (.clr_IR 0x9C) ∧
    decode [0xC0, 0x9C] = .instr (.rrc_R 0x9C) ∧
    decode [0xC1, 0x9C] = .instr (.rrc_IR 0x9C) ∧
    decode [0xD0, 0x9C] = .instr (.sra_R 0x9C) ∧
    decode [0xD1, 0x9C] = .instr (.sra_IR 0x9C) ∧
    decode [0xE0, 0x9C] = .instr (.rr_R 0x9C) ∧
    decode [0xE1, 0x9C] = .instr (.rr_IR 0x9C) ∧
    decode [0xDE] = .instr (.inc_r 13) := by decide

theorem test_decode_program_control :
    decode [0x30, 0xC2] = .instr (.jp_IRR 0xC2) ∧
    decode [0xED, 0x02, 0x34] = .instr (.jp_cc_DA .nz 0x0234) ∧
    decode [0x6B, 0xF9] = .instr (.jr_cc_RA .z 0xF9) ∧
    decode [0xF4, 0x40] = .instr (.call_IRR 0x40) ∧
    decode [0xF6, 0x15, 0x21] = .instr (.call_DA 0x1521) := by decide

theorem test_decode_ld :
    decode [0x3C, 0x10] = .instr (.ld_r_IM 3 0x10) ∧
    decode [0x28, 0x40] = .instr (.ld_r_R 2 0x40) ∧
    decode [0xF9, 0x7F] = .instr (.ld_R_r 0x7F 15) ∧
    decode [0xC7, 0x10] = .instr (.ld_r_Ir 1 0) ∧
    decode [0xD7, 0x01] = .instr (.ld_Ir_r 0 1) ∧
    decode [0xE4, 0x01, 0x00] = .instr (.ld_R_R 0x00 0x01) ∧
    decode [0xE5, 0x00, 0x02] = .instr (.ld_R_IR 0x02 0x00) ∧
    decode [0xE6, 0xD9, 0xC0] = .instr (.ld_R_IM 0xD9 0xC0) ∧
    decode [0xD6, 0x00, 0x10] = .instr (.ld_IR_IM 0x00 0x10) ∧
    decode [0xF5, 0x02, 0x00] = .instr (.ld_IR_R 0x00 0x02) ∧
    decode [0x87, 0x01, 0x30] = .instr (.ld_r_X 0 0x30 1) ∧
    decode [0x97, 0x10, 0x30] = .instr (.ld_X_r 0x30 0 1) := by decide

theorem test_decode_ldc :
    decode [0xC3, 0x02] = .instr (.ldc_r_Irr 0 1) ∧
    decode [0xD3, 0x54] = .instr (.ldc_Irr_r 2 5) ∧
    decode [0xE7, 0x14, 0xFE] = .instr (.ldc_r_XS 1 0xFE 2) ∧
    decode [0xF7, 0x36, 0x01] = .instr (.ldc_XS_r 0x01 3 3) ∧
    decode [0xA7, 0x02, 0x00, 0x10] = .instr (.ldc_r_XL 0 0x1000 1) ∧
    decode [0xB7, 0x92, 0x34, 0x12] = .instr (.ldc_XL_r 0x1234 1 9) ∧
    decode [0xA7, 0x40, 0x04, 0x11] = .instr (.ldc_r_DA 4 0x1104) ∧
    decode [0xB7, 0x70, 0x05, 0x11] = .instr (.ldc_DA_r 0x1105 7) := by decide

theorem test_decode_lde :
    decode [0xC3, 0x03] = .instr (.lde_r_Irr 0 1) ∧
    decode [0xD3, 0x55] = .instr (.lde_Irr_r 2 5) ∧
    decode [0xE7, 0x15, 0xFE] = .instr (.lde_r_XS 1 0xFE 2) ∧
    decode [0xF7, 0x37, 0x01] = .instr (.lde_XS_r 0x01 3 3) ∧
    decode [0xA7, 0x03, 0x00, 0x10] = .instr (.lde_r_XL 0 0x1000 1) ∧
    decode [0xB7, 0x93, 0x34, 0x12] = .instr (.lde_XL_r 0x1234 1 9) ∧
    decode [0xA7, 0x41, 0x04, 0x11] = .instr (.lde_r_DA 4 0x1104) ∧
    decode [0xB7, 0x71, 0x05, 0x11] = .instr (.lde_DA_r 0x1105 7) := by decide

theorem test_decode_load_and_step :
    decode [0xE2, 0x86] = .instr (.ldcd_r_Irr 8 3) ∧
    decode [0xE2, 0x87] = .instr (.lded_r_Irr 8 3) ∧
    decode [0xE3, 0x86] = .instr (.ldci_r_Irr 8 3) ∧
    decode [0xE3, 0x87] = .instr (.ldei_r_Irr 8 3) := by decide

theorem test_decode_no_operand :
    decode [0x6F] = .instr (.idle) ∧
    decode [0x7F] = .instr (.stop) ∧
    decode [0x8F] = .instr (.di) ∧
    decode [0x9F] = .instr (.ei) ∧
    decode [0xAF] = .instr (.ret) ∧
    decode [0xBF] = .instr (.iret) ∧
    decode [0xCF] = .instr (.rcf) ∧
    decode [0xDF] = .instr (.scf) ∧
    decode [0xEF] = .instr (.ccf) ∧
    decode [0xFF] = .instr (.nop) := by decide

/-- The table numbers an instruction with byte 1 the most significant (30_encoding.md; log 32). -/
theorem test_table_numbers :
    decodeTableWord 16 0x025A = some (.add_r_r 5 10) ∧
    decodeTableWord 24 0x061234 = some (.add_R_IM 0x12 0x34) ∧
    decodeTableWord 32 0xA7020010 = some (.ldc_r_XL 0 0x1000 1) ∧
    decodeTableWord 8 0xFF = some .nop ∧ decodeTableWord 8 0x5F = none := by decide

/-! ### One step of the worked examples (95_test_vectors.md sections 2 and 5) -/

/-- A running machine with code at `pc`, given flags, register-file bytes and ROM bytes. -/
def rig (code : List Byte) (pc : Word) (flags : Byte) (file : List (Byte × Byte))
    (rom : List (Word × Byte)) : State :=
  rom.foldl (fun s c => placeProg c.1 [c.2] s) (placeProg pc code
    (file.foldl (fun s c => storeReg c.1 c.2 s)
      { State.reset with mode := .run, pc := pc, flags := flags }))

/-- The same machine with another ROM size. -/
def withRom (n : Nat) (s : State) : State := { s with cfg := { s.cfg with romSize := n } }

/-- The step goes on, to this pc, these flags, this power state and these register-file bytes. -/
def goes (s : State) (pc : Word) (flags : Byte) (m : Mode) (file : List (Byte × Byte)) : Bool :=
  match step s with
  | .next t => t.pc == pc && t.flags == flags && t.mode == m &&
      file.all fun c => storedByte c.1 t == c.2
  | .fault _ => false
  | .refused _ => false

/-- The step is refused for this reason. -/
def refuses (s : State) (r : Refusal) : Bool :=
  match step s with
  | .next _ => false
  | .fault _ => false
  | .refused x => x == r

/-- The step faults for this reason. -/
def faults (s : State) (r : Fault) : Bool :=
  match step s with
  | .next _ => false
  | .fault x => x == r
  | .refused _ => false

theorem test_adc :
    goes (rig [0x12, 0x12] 0x0100 0x80 [(0xC1, 0x10), (0xC2, 0x03), (0x01, 0x20), (0x02, 0x03), (0x03, 0x0A)] [])
      0x0102 0x00 .run [(0xC1, 0x14), (0xC2, 0x03)] = true ∧
    goes (rig [0x13, 0x12] 0x0100 0x80 [(0xC1, 0x10), (0xC2, 0x03), (0x01, 0x20), (0x02, 0x03), (0x03, 0x0A)] [])
      0x0102 0x00 .run [(0xC1, 0x1B), (0xC2, 0x03)] = true ∧
    goes (rig [0x14, 0x02, 0x01] 0x0100 0x80 [(0xC1, 0x10), (0xC2, 0x03), (0x01, 0x20), (0x02, 0x03), (0x03, 0x0A)] [])
      0x0103 0x00 .run [(0x01, 0x24), (0x02, 0x03)] = true ∧
    goes (rig [0x15, 0x02, 0x01] 0x0100 0x80 [(0xC1, 0x10), (0xC2, 0x03), (0x01, 0x20), (0x02, 0x03), (0x03, 0x0A)] [])
      0x0103 0x00 .run [(0x01, 0x2B), (0x02, 0x03)] = true ∧
    goes (rig [0x16, 0x01, 0x11] 0x0100 0x80 [(0xC1, 0x10), (0xC2, 0x03), (0x01, 0x20), (0x02, 0x03), (0x03, 0x0A)] [])
      0x0103 0x00 .run [(0x01, 0x32)] = true := by decide

theorem test_add :
    goes (rig [0x02, 0x12] 0x0100 0x00 [(0xC1, 0x12), (0xC2, 0x03), (0x01, 0x21), (0x02, 0x03), (0x03, 0x0A)] [])
      0x0102 0x00 .run [(0xC1, 0x15), (0xC2, 0x03)] = true ∧
    goes (rig [0x03, 0x12] 0x0100 0x00 [(0xC1, 0x12), (0xC2, 0x03), (0x01, 0x21), (0x02, 0x03), (0x03, 0x0A)] [])
      0x0102 0x00 .run [(0xC1, 0x1C), (0xC2, 0x03)] = true ∧
    goes (rig [0x04, 0x02, 0x01] 0x0100 0x00 [(0xC1, 0x12), (0xC2, 0x03), (0x01, 0x21), (0x02, 0x03), (0x03, 0x0A)] [])
      0x0103 0x00 .run [(0x01, 0x24), (0x02, 0x03)] = true ∧
    goes (rig [0x05, 0x02, 0x01] 0x0100 0x00 [(0xC1, 0x12), (0xC2, 0x03), (0x01, 0x21), (0x02, 0x03), (0x03, 0x0A)] [])
      0x0103 0x00 .run [(0x01, 0x2B), (0x02, 0x03)] = true ∧
    goes (rig [0x06, 0x01, 0x25] 0x0100 0x00 [(0xC1, 0x12), (0xC2, 0x03), (0x01, 0x21), (0x02, 0x03), (0x03, 0x0A)] [])
      0x0103 0x00 .run [(0x01, 0x46)] = true := by decide

theorem test_sbc :
    goes (rig [0x32, 0x12] 0x0100 0x80 [(0xC1, 0x10), (0xC2, 0x03), (0x01, 0x20), (0x02, 0x03), (0x03, 0x0A)] [])
      0x0102 0x00 .run [(0xC1, 0x0C), (0xC2, 0x03)] = true ∧
    goes (rig [0x33, 0x12] 0x0100 0x80 [(0xC1, 0x10), (0xC2, 0x03), (0x01, 0x20), (0x02, 0x03), (0x03, 0x0A)] [])
      0x0102 0x00 .run [(0xC1, 0x05), (0xC2, 0x03), (0x03, 0x0A)] = true ∧
    goes (rig [0x34, 0x02, 0x01] 0x0100 0x80 [(0xC1, 0x10), (0xC2, 0x03), (0x01, 0x20), (0x02, 0x03), (0x03, 0x0A)] [])
      0x0103 0x00 .run [(0x01, 0x1C), (0x02, 0x03)] = true ∧
    goes (rig [0x35, 0x02, 0x01] 0x0100 0x80 [(0xC1, 0x10), (0xC2, 0x03), (0x01, 0x20), (0x02, 0x03), (0x03, 0x0A)] [])
      0x0103 0x00 .run [(0x01, 0x15), (0x02, 0x03), (0x03, 0x0A)] = true ∧
    goes (rig [0x36, 0x01, 0x8A] 0x0100 0x80 [(0xC1, 0x10), (0xC2, 0x03), (0x01, 0x20), (0x02, 0x03), (0x03, 0x0A)] [])
      0x0103 0xB0 .run [(0x01, 0x95)] = true := by decide

theorem test_sub :
    goes (rig [0x22, 0x12] 0x0100 0x00 [(0xC1, 0x12), (0xC2, 0x03), (0x01, 0x21), (0x02, 0x03), (0x03, 0x0A)] [])
      0x0102 0x00 .run [(0xC1, 0x0F), (0xC2, 0x03)] = true ∧
    goes (rig [0x23, 0x12] 0x0100 0x00 [(0xC1, 0x12), (0xC2, 0x03), (0x01, 0x21), (0x02, 0x03), (0x03, 0x0A)] [])
      0x0102 0x00 .run [(0xC1, 0x08), (0xC2, 0x03)] = true ∧
    goes (rig [0x24, 0x02, 0x01] 0x0100 0x00 [(0xC1, 0x12), (0xC2, 0x03), (0x01, 0x21), (0x02, 0x03), (0x03, 0x0A)] [])
      0x0103 0x00 .run [(0x01, 0x1E), (0x02, 0x03)] = true ∧
    goes (rig [0x25, 0x02, 0x01] 0x0100 0x00 [(0xC1, 0x12), (0xC2, 0x03), (0x01, 0x21), (0x02, 0x03), (0x03, 0x0A)] [])
      0x0103 0x00 .run [(0x01, 0x17), (0x02, 0x03)] = true ∧
    goes (rig [0x26, 0x01, 0x90] 0x0100 0x00 [(0xC1, 0x12), (0xC2, 0x03), (0x01, 0x21), (0x02, 0x03), (0x03, 0x0A)] [])
      0x0103 0xB0 .run [(0x01, 0x91)] = true ∧
    goes (rig [0x26, 0x01, 0x65] 0x0100 0x00 [(0xC1, 0x12), (0xC2, 0x03), (0x01, 0x21), (0x02, 0x03), (0x03, 0x0A)] [])
      0x0103 0xA0 .run [(0x01, 0xBC)] = true := by decide

theorem test_cp :
    goes (rig [0xA2, 0x12] 0x0100 0x00 [(0xC1, 0x02), (0xC2, 0x03)] [])
      0x0102 0xA0 .run [(0xC1, 0x02), (0xC2, 0x03)] = true := by decide

theorem test_dec :
    goes (rig [0x00, 0xC1] 0x0100 0x00 [(0xC1, 0x03), (0x03, 0x10)] [])
      0x0102 0x00 .run [(0xC1, 0x02)] = true ∧
    goes (rig [0x01, 0xC1] 0x0100 0x00 [(0xC1, 0x03), (0x03, 0x10)] [])
      0x0102 0x00 .run [(0x03, 0x0F)] = true := by decide

theorem test_inc :
    goes (rig [0x0E] 0x0100 0x00 [(0xC0, 0x1B), (0x00, 0x0C), (0x1B, 0x0F)] [])
      0x0101 0x00 .run [(0xC0, 0x1C)] = true ∧
    goes (rig [0x20, 0x00] 0x0100 0x00 [(0xC0, 0x1B), (0x00, 0x0C), (0x1B, 0x0F)] [])
      0x0102 0x00 .run [(0x00, 0x0D)] = true ∧
    goes (rig [0x21, 0xC0] 0x0100 0x00 [(0xC0, 0x1B), (0x00, 0x0C), (0x1B, 0x0F)] [])
      0x0102 0x00 .run [(0x1B, 0x10), (0xC0, 0x1B)] = true := by decide

theorem test_and :
    goes (rig [0x52, 0x12] 0x0100 0x90 [(0xC1, 0x12), (0xC2, 0x03), (0x01, 0x21), (0x02, 0x03), (0x03, 0x0A)] [])
      0x0102 0x80 .run [(0xC1, 0x02)] = true ∧
    goes (rig [0x53, 0x12] 0x0100 0x90 [(0xC1, 0x12), (0xC2, 0x03), (0x01, 0x21), (0x02, 0x03), (0x03, 0x0A)] [])
      0x0102 0x80 .run [(0xC1, 0x02)] = true ∧
    goes (rig [0x54, 0x02, 0x01] 0x0100 0x90 [(0xC1, 0x12), (0xC2, 0x03), (0x01, 0x21), (0x02, 0x03), (0x03, 0x0A)] [])
      0x0103 0x80 .run [(0x01, 0x01)] = true ∧
    goes (rig [0x55, 0x02, 0x01] 0x0100 0x90 [(0xC1, 0x12), (0xC2, 0x03), (0x01, 0x21), (0x02, 0x03), (0x03, 0x0A)] [])
      0x0103 0xC0 .run [(0x01, 0x00)] = true ∧
    goes (rig [0x56, 0x01, 0x25] 0x0100 0x90 [(0xC1, 0x12), (0xC2, 0x03), (0x01, 0x21), (0x02, 0x03), (0x03, 0x0A)] [])
      0x0103 0x80 .run [(0x01, 0x21)] = true := by decide

theorem test_or :
    goes (rig [0x42, 0x01] 0x0100 0x10 [(0xC0, 0x15), (0xC1, 0x2A), (0xC2, 0x01), (0x00, 0x08), (0x01, 0x37), (0x08, 0x8A)] [])
      0x0102 0x00 .run [(0xC0, 0x3F)] = true ∧
    goes (rig [0x43, 0x02] 0x0100 0x10 [(0xC0, 0x15), (0xC1, 0x2A), (0xC2, 0x01), (0x00, 0x08), (0x01, 0x37), (0x08, 0x8A)] [])
      0x0102 0x00 .run [(0xC0, 0x37)] = true ∧
    goes (rig [0x44, 0x01, 0x00] 0x0100 0x10 [(0xC0, 0x15), (0xC1, 0x2A), (0xC2, 0x01), (0x00, 0x08), (0x01, 0x37), (0x08, 0x8A)] [])
      0x0103 0x00 .run [(0x00, 0x3F)] = true ∧
    goes (rig [0x45, 0x00, 0x01] 0x0100 0x10 [(0xC0, 0x15), (0xC1, 0x2A), (0xC2, 0x01), (0x00, 0x08), (0x01, 0x37), (0x08, 0x8A)] [])
      0x0103 0x20 .run [(0x01, 0xBF)] = true ∧
    goes (rig [0x46, 0x00, 0x02] 0x0100 0x10 [(0xC0, 0x15), (0xC1, 0x2A), (0xC2, 0x01), (0x00, 0x08), (0x01, 0x37), (0x08, 0x8A)] [])
      0x0103 0x00 .run [(0x00, 0x0A)] = true := by decide

theorem test_xor :
    goes (rig [0xB2, 0x01] 0x0100 0x90 [(0xC0, 0xC7), (0xC1, 0x02), (0xC2, 0x18), (0x00, 0x2B), (0x01, 0x02), (0x02, 0x23)] [])
      0x0102 0xA0 .run [(0xC0, 0xC5)] = true ∧
    goes (rig [0xB3, 0x01] 0x0100 0x90 [(0xC0, 0xC7), (0xC1, 0x02), (0xC2, 0x18), (0x00, 0x2B), (0x01, 0x02), (0x02, 0x23)] [])
      0x0102 0xA0 .run [(0xC0, 0xE4)] = true ∧
    goes (rig [0xB4, 0x01, 0x00] 0x0100 0x90 [(0xC0, 0xC7), (0xC1, 0x02), (0xC2, 0x18), (0x00, 0x2B), (0x01, 0x02), (0x02, 0x23)] [])
      0x0103 0x80 .run [(0x00, 0x29)] = true ∧
    goes (rig [0xB5, 0x01, 0x00] 0x0100 0x90 [(0xC0, 0xC7), (0xC1, 0x02), (0xC2, 0x18), (0x00, 0x2B), (0x01, 0x02), (0x02, 0x23)] [])
      0x0103 0x80 .run [(0x00, 0x08)] = true ∧
    goes (rig [0xB6, 0x00, 0x54] 0x0100 0x90 [(0xC0, 0xC7), (0xC1, 0x02), (0xC2, 0x18), (0x00, 0x2B), (0x01, 0x02), (0x02, 0x23)] [])
      0x0103 0x80 .run [(0x00, 0x7F)] = true := by decide

theorem test_tm :
    goes (rig [0x72, 0x01] 0x0100 0x90 [(0xC0, 0xC7), (0xC1, 0x02), (0xC2, 0x18), (0x00, 0x2B), (0x01, 0x02), (0x02, 0x23)] [])
      0x0102 0x80 .run [(0xC0, 0xC7), (0xC1, 0x02), (0xC2, 0x18), (0x00, 0x2B), (0x01, 0x02), (0x02, 0x23)] = true ∧
    goes (rig [0x73, 0x01] 0x0100 0x90 [(0xC0, 0xC7), (0xC1, 0x02), (0xC2, 0x18), (0x00, 0x2B), (0x01, 0x02), (0x02, 0x23)] [])
      0x0102 0x80 .run [(0xC0, 0xC7), (0xC1, 0x02), (0xC2, 0x18), (0x00, 0x2B), (0x01, 0x02), (0x02, 0x23)] = true ∧
    goes (rig [0x74, 0x01, 0x00] 0x0100 0x90 [(0xC0, 0xC7), (0xC1, 0x02), (0xC2, 0x18), (0x00, 0x2B), (0x01, 0x02), (0x02, 0x23)] [])
      0x0103 0x80 .run [(0xC0, 0xC7), (0xC1, 0x02), (0xC2, 0x18), (0x00, 0x2B), (0x01, 0x02), (0x02, 0x23)] = true ∧
    goes (rig [0x75, 0x01, 0x00] 0x0100 0x90 [(0xC0, 0xC7), (0xC1, 0x02), (0xC2, 0x18), (0x00, 0x2B), (0x01, 0x02), (0x02, 0x23)] [])
      0x0103 0x80 .run [(0xC0, 0xC7), (0xC1, 0x02), (0xC2, 0x18), (0x00, 0x2B), (0x01, 0x02), (0x02, 0x23)] = true ∧
    goes (rig [0x76, 0x00, 0x54] 0x0100 0x90 [(0xC0, 0xC7), (0xC1, 0x02), (0xC2, 0x18), (0x00, 0x2B), (0x01, 0x02), (0x02, 0x23)] [])
      0x0103 0xC0 .run [(0xC0, 0xC7), (0xC1, 0x02), (0xC2, 0x18), (0x00, 0x2B), (0x01, 0x02), (0x02, 0x23)] = true := by decide

theorem test_tcm :
    goes (rig [0x62, 0x01] 0x0100 0x10 [(0xC0, 0xC7), (0xC1, 0x02), (0xC2, 0x12), (0x00, 0x2B), (0x01, 0x02), (0x02, 0x23)] [])
      0x0102 0x40 .run [(0xC0, 0xC7), (0xC1, 0x02), (0xC2, 0x12), (0x00, 0x2B), (0x01, 0x02), (0x02, 0x23)] = true ∧
    goes (rig [0x63, 0x01] 0x0100 0x10 [(0xC0, 0xC7), (0xC1, 0x02), (0xC2, 0x12), (0x00, 0x2B), (0x01, 0x02), (0x02, 0x23)] [])
      0x0102 0x00 .run [(0xC0, 0xC7), (0xC1, 0x02), (0xC2, 0x12), (0x00, 0x2B), (0x01, 0x02), (0x02, 0x23)] = true ∧
    goes (rig [0x64, 0x01, 0x00] 0x0100 0x10 [(0xC0, 0xC7), (0xC1, 0x02), (0xC2, 0x12), (0x00, 0x2B), (0x01, 0x02), (0x02, 0x23)] [])
      0x0103 0x40 .run [(0xC0, 0xC7), (0xC1, 0x02), (0xC2, 0x12), (0x00, 0x2B), (0x01, 0x02), (0x02, 0x23)] = true ∧
    goes (rig [0x65, 0x01, 0x00] 0x0100 0x10 [(0xC0, 0xC7), (0xC1, 0x02), (0xC2, 0x12), (0x00, 0x2B), (0x01, 0x02), (0x02, 0x23)] [])
      0x0103 0x40 .run [(0xC0, 0xC7), (0xC1, 0x02), (0xC2, 0x12), (0x00, 0x2B), (0x01, 0x02), (0x02, 0x23)] = true ∧
    goes (rig [0x66, 0x00, 0x34] 0x0100 0x10 [(0xC0, 0xC7), (0xC1, 0x02), (0xC2, 0x12), (0x00, 0x2B), (0x01, 0x02), (0x02, 0x23)] [])
      0x0103 0x00 .run [(0xC0, 0xC7), (0xC1, 0x02), (0xC2, 0x12), (0x00, 0x2B), (0x01, 0x02), (0x02, 0x23)] = true := by decide

theorem test_com :
    goes (rig [0x60, 0xC1] 0x0100 0x00 [(0xC1, 0x07), (0x07, 0xF1)] [])
      0x0102 0x20 .run [(0xC1, 0xF8)] = true ∧
    goes (rig [0x61, 0xC1] 0x0100 0x00 [(0xC1, 0x07), (0x07, 0xF1)] [])
      0x0102 0x00 .run [(0x07, 0x0E), (0xC1, 0x07)] = true := by decide

theorem test_rl :
    goes (rig [0x90, 0x00] 0x0100 0x00 [(0x00, 0xAA), (0x01, 0x02), (0x02, 0x17)] [])
      0x0102 0x90 .run [(0x00, 0x55)] = true ∧
    goes (rig [0x91, 0x01] 0x0100 0x00 [(0x00, 0xAA), (0x01, 0x02), (0x02, 0x17)] [])
      0x0102 0x00 .run [(0x02, 0x2E)] = true := by decide

theorem test_rlc :
    goes (rig [0x10, 0x00] 0x0100 0x00 [(0x00, 0xAA), (0x01, 0x02), (0x02, 0x17)] [])
      0x0102 0x90 .run [(0x00, 0x54)] = true ∧
    goes (rig [0x11, 0x01] 0x0100 0x00 [(0x00, 0xAA), (0x01, 0x02), (0x02, 0x17)] [])
      0x0102 0x00 .run [(0x02, 0x2E)] = true := by decide

theorem test_rr :
    goes (rig [0xE0, 0x00] 0x0100 0x00 [(0x00, 0x31), (0x01, 0x02), (0x02, 0x17)] [])
      0x0102 0xB0 .run [(0x00, 0x98)] = true ∧
    goes (rig [0xE1, 0x01] 0x0100 0x00 [(0x00, 0x31), (0x01, 0x02), (0x02, 0x17)] [])
      0x0102 0xB0 .run [(0x02, 0x8B)] = true := by decide

theorem test_rrc :
    goes (rig [0xC0, 0x00] 0x0100 0x00 [(0x00, 0x55), (0x01, 0x02), (0x02, 0x17)] [])
      0x0102 0x80 .run [(0x00, 0x2A)] = true ∧
    goes (rig [0xC1, 0x01] 0x0100 0x00 [(0x00, 0x55), (0x01, 0x02), (0x02, 0x17)] [])
      0x0102 0x80 .run [(0x02, 0x0B)] = true := by decide

theorem test_sra :
    goes (rig [0xD0, 0x00] 0x0100 0x80 [(0x00, 0x9A), (0x02, 0x03), (0x03, 0xBC)] [])
      0x0102 0x20 .run [(0x00, 0xCD)] = true ∧
    goes (rig [0xD1, 0x02] 0x0100 0x80 [(0x00, 0x9A), (0x02, 0x03), (0x03, 0xBC)] [])
      0x0102 0x20 .run [(0x03, 0xDE)] = true := by decide

theorem test_clr :
    goes (rig [0xB0, 0x00] 0x0100 0x00 [(0x00, 0x4F), (0x01, 0x02), (0x02, 0x5E)] [])
      0x0102 0x00 .run [(0x00, 0x00)] = true ∧
    goes (rig [0xB1, 0x01] 0x0100 0x00 [(0x00, 0x4F), (0x01, 0x02), (0x02, 0x5E)] [])
      0x0102 0x00 .run [(0x01, 0x02), (0x02, 0x00)] = true := by decide

theorem test_ld :
    goes (rig [0x0C, 0x10] 0x0100 0xF0 [(0xC0, 0x01), (0xC1, 0x0A), (0x00, 0x01), (0x01, 0x20), (0x02, 0x02), (0x3A, 0xFF)] [])
      0x0102 0xF0 .run [(0xC0, 0x10)] = true ∧
    goes (rig [0x08, 0x01] 0x0100 0xF0 [(0xC0, 0x01), (0xC1, 0x0A), (0x00, 0x01), (0x01, 0x20), (0x02, 0x02), (0x3A, 0xFF)] [])
      0x0102 0xF0 .run [(0xC0, 0x20), (0x01, 0x20)] = true ∧
    goes (rig [0x09, 0x01] 0x0100 0xF0 [(0xC0, 0x01), (0xC1, 0x0A), (0x00, 0x01), (0x01, 0x20), (0x02, 0x02), (0x3A, 0xFF)] [])
      0x0102 0xF0 .run [(0x01, 0x01), (0xC0, 0x01)] = true ∧
    goes (rig [0xC7, 0x10] 0x0100 0xF0 [(0xC0, 0x01), (0xC1, 0x0A), (0x00, 0x01), (0x01, 0x20), (0x02, 0x02), (0x3A, 0xFF)] [])
      0x0102 0xF0 .run [(0xC1, 0x20), (0xC0, 0x01)] = true ∧
    goes (rig [0xD7, 0x01] 0x0100 0xF0 [(0xC0, 0x01), (0xC1, 0x0A), (0x00, 0x01), (0x01, 0x20), (0x02, 0x02), (0x3A, 0xFF)] [])
      0x0102 0xF0 .run [(0xC0, 0x01), (0xC1, 0x0A), (0x01, 0x0A)] = true ∧
    goes (rig [0xE4, 0x01, 0x00] 0x0100 0xF0 [(0xC0, 0x01), (0xC1, 0x0A), (0x00, 0x01), (0x01, 0x20), (0x02, 0x02), (0x3A, 0xFF)] [])
      0x0103 0xF0 .run [(0x00, 0x20), (0x01, 0x20)] = true ∧
    goes (rig [0xE5, 0x00, 0x02] 0x0100 0xF0 [(0xC0, 0x01), (0xC1, 0x0A), (0x00, 0x01), (0x01, 0x20), (0x02, 0x02), (0x3A, 0xFF)] [])
      0x0103 0xF0 .run [(0x02, 0x20), (0x00, 0x01)] = true ∧
    goes (rig [0xE6, 0x00, 0x0A] 0x0100 0xF0 [(0xC0, 0x01), (0xC1, 0x0A), (0x00, 0x01), (0x01, 0x20), (0x02, 0x02), (0x3A, 0xFF)] [])
      0x0103 0xF0 .run [(0x00, 0x0A)] = true ∧
    goes (rig [0xD6, 0x00, 0x10] 0x0100 0xF0 [(0xC0, 0x01), (0xC1, 0x0A), (0x00, 0x01), (0x01, 0x20), (0x02, 0x02), (0x3A, 0xFF)] [])
      0x0103 0xF0 .run [(0x00, 0x01), (0x01, 0x10), (0x02, 0x02)] = true ∧
    goes (rig [0xF5, 0x02, 0x00] 0x0100 0xF0 [(0xC0, 0x01), (0xC1, 0x0A), (0x00, 0x01), (0x01, 0x20), (0x02, 0x02), (0x3A, 0xFF)] [])
      0x0103 0xF0 .run [(0x00, 0x01), (0x01, 0x02), (0x02, 0x02)] = true ∧
    goes (rig [0x87, 0x01, 0x30] 0x0100 0xF0 [(0xC0, 0x01), (0xC1, 0x0A), (0x00, 0x01), (0x01, 0x20), (0x02, 0x02), (0x3A, 0xFF)] [])
      0x0103 0xF0 .run [(0xC0, 0xFF), (0xC1, 0x0A)] = true ∧
    goes (rig [0x97, 0x10, 0x30] 0x0100 0xF0 [(0xC0, 0x01), (0xC1, 0x0A), (0x00, 0x01), (0x01, 0x20), (0x02, 0x02), (0x3A, 0xFF)] [])
      0x0103 0xF0 .run [(0x31, 0x0A), (0xC0, 0x01), (0xC1, 0x0A)] = true := by decide

theorem test_ldc :
    goes (withRom 65536 (rig [0xC3, 0x02] 0x0300 0xA0 [(0xC0, 0x11), (0xC1, 0x34), (0xC2, 0x01), (0xC3, 0x04), (0xC4, 0x00), (0xC5, 0x60)] [(0x0061, 0xAA), (0x0103, 0x4F), (0x0104, 0x1A), (0x0105, 0x6D), (0x1104, 0x88)]))
      0x0302 0xA0 .run [(0xC0, 0x1A)] = true ∧
    goes (withRom 65536 (rig [0xE7, 0x04, 0x01] 0x0300 0xA0 [(0xC0, 0x11), (0xC1, 0x34), (0xC2, 0x01), (0xC3, 0x04), (0xC4, 0x00), (0xC5, 0x60)] [(0x0061, 0xAA), (0x0103, 0x4F), (0x0104, 0x1A), (0x0105, 0x6D), (0x1104, 0x88)]))
      0x0303 0xA0 .run [(0xC0, 0xAA)] = true ∧
    goes (withRom 65536 (rig [0xA7, 0x02, 0x00, 0x10] 0x0300 0xA0 [(0xC0, 0x11), (0xC1, 0x34), (0xC2, 0x01), (0xC3, 0x04), (0xC4, 0x00), (0xC5, 0x60)] [(0x0061, 0xAA), (0x0103, 0x4F), (0x0104, 0x1A), (0x0105, 0x6D), (0x1104, 0x88)]))
      0x0304 0xA0 .run [(0xC0, 0x88)] = true ∧
    goes (withRom 65536 (rig [0xA7, 0x00, 0x04, 0x11] 0x0300 0xA0 [(0xC0, 0x11), (0xC1, 0x34), (0xC2, 0x01), (0xC3, 0x04), (0xC4, 0x00), (0xC5, 0x60)] [(0x0061, 0xAA), (0x0103, 0x4F), (0x0104, 0x1A), (0x0105, 0x6D), (0x1104, 0x88)]))
      0x0304 0xA0 .run [(0xC0, 0x88)] = true := by decide

theorem test_ldc_out_of_range :
    faults (rig [0xA7, 0x02, 0x00, 0x10] 0x0300 0x00 [(0xC0, 0x11), (0xC1, 0x34), (0xC2, 0x01), (0xC3, 0x04), (0xC4, 0x00), (0xC5, 0x60)] [(0x0061, 0xAA), (0x0103, 0x4F), (0x0104, 0x1A), (0x0105, 0x6D), (0x1104, 0x88)]) (.programAddressOutOfRange 0x1104) = true := by decide

theorem test_ldc_store_refused :
    refuses (rig [0xD3, 0x02] 0x0300 0x00 [(0xC0, 0x11), (0xC1, 0x34), (0xC2, 0x01), (0xC3, 0x04), (0xC4, 0x00), (0xC5, 0x60)] [(0x0061, 0xAA), (0x0103, 0x4F), (0x0104, 0x1A), (0x0105, 0x6D), (0x1104, 0x88)]) .storeToProgramMemory = true ∧
    refuses (rig [0xF7, 0x04, 0x01] 0x0300 0x00 [(0xC0, 0x11), (0xC1, 0x34), (0xC2, 0x01), (0xC3, 0x04), (0xC4, 0x00), (0xC5, 0x60)] [(0x0061, 0xAA), (0x0103, 0x4F), (0x0104, 0x1A), (0x0105, 0x6D), (0x1104, 0x88)]) .storeToProgramMemory = true ∧
    refuses (rig [0xB7, 0x00, 0x05, 0x11] 0x0300 0x00 [(0xC0, 0x11), (0xC1, 0x34), (0xC2, 0x01), (0xC3, 0x04), (0xC4, 0x00), (0xC5, 0x60)] [(0x0061, 0xAA), (0x0103, 0x4F), (0x0104, 0x1A), (0x0105, 0x6D), (0x1104, 0x88)]) .storeToProgramMemory = true := by decide

theorem test_lde_refused :
    refuses (rig [0xC3, 0x03] 0x0300 0x00 [(0xC0, 0x11), (0xC1, 0x34), (0xC2, 0x01), (0xC3, 0x04), (0xC4, 0x00), (0xC5, 0x60)] [(0x0061, 0xAA), (0x0103, 0x4F), (0x0104, 0x1A), (0x0105, 0x6D), (0x1104, 0x88)]) .noDataMemory = true ∧
    refuses (rig [0xD3, 0x03] 0x0300 0x00 [(0xC0, 0x11), (0xC1, 0x34), (0xC2, 0x01), (0xC3, 0x04), (0xC4, 0x00), (0xC5, 0x60)] [(0x0061, 0xAA), (0x0103, 0x4F), (0x0104, 0x1A), (0x0105, 0x6D), (0x1104, 0x88)]) .noDataMemory = true ∧
    refuses (rig [0xE7, 0x05, 0x01] 0x0300 0x00 [(0xC0, 0x11), (0xC1, 0x34), (0xC2, 0x01), (0xC3, 0x04), (0xC4, 0x00), (0xC5, 0x60)] [(0x0061, 0xAA), (0x0103, 0x4F), (0x0104, 0x1A), (0x0105, 0x6D), (0x1104, 0x88)]) .noDataMemory = true ∧
    refuses (rig [0xF7, 0x05, 0x01] 0x0300 0x00 [(0xC0, 0x11), (0xC1, 0x34), (0xC2, 0x01), (0xC3, 0x04), (0xC4, 0x00), (0xC5, 0x60)] [(0x0061, 0xAA), (0x0103, 0x4F), (0x0104, 0x1A), (0x0105, 0x6D), (0x1104, 0x88)]) .noDataMemory = true ∧
    refuses (rig [0xA7, 0x03, 0x00, 0x10] 0x0300 0x00 [(0xC0, 0x11), (0xC1, 0x34), (0xC2, 0x01), (0xC3, 0x04), (0xC4, 0x00), (0xC5, 0x60)] [(0x0061, 0xAA), (0x0103, 0x4F), (0x0104, 0x1A), (0x0105, 0x6D), (0x1104, 0x88)]) .noDataMemory = true ∧
    refuses (rig [0xA7, 0x01, 0x04, 0x11] 0x0300 0x00 [(0xC0, 0x11), (0xC1, 0x34), (0xC2, 0x01), (0xC3, 0x04), (0xC4, 0x00), (0xC5, 0x60)] [(0x0061, 0xAA), (0x0103, 0x4F), (0x0104, 0x1A), (0x0105, 0x6D), (0x1104, 0x88)]) .noDataMemory = true ∧
    refuses (rig [0xB7, 0x01, 0x05, 0x11] 0x0300 0x00 [(0xC0, 0x11), (0xC1, 0x34), (0xC2, 0x01), (0xC3, 0x04), (0xC4, 0x00), (0xC5, 0x60)] [(0x0061, 0xAA), (0x0103, 0x4F), (0x0104, 0x1A), (0x0105, 0x6D), (0x1104, 0x88)]) .noDataMemory = true := by decide

theorem test_ldcd :
    goes (withRom 65536 (rig [0xE2, 0x86] 0x0300 0x00 [(0xC6, 0x10), (0xC7, 0x33), (0xC8, 0x12)] [(0x1033, 0xCD)]))
      0x0302 0x00 .run [(0xC8, 0xCD), (0xC6, 0x10), (0xC7, 0x32)] = true := by decide

theorem test_ldci :
    goes (withRom 65536 (rig [0xE3, 0x86] 0x0300 0x00 [(0xC6, 0x10), (0xC7, 0x33), (0xC8, 0x12)] [(0x1033, 0xCD)]))
      0x0302 0x00 .run [(0xC8, 0xCD), (0xC6, 0x10), (0xC7, 0x34)] = true := by decide

theorem test_pop :
    goes (rig [0x50, 0x00] 0x0100 0x00 [(0x00, 0x01), (0x01, 0x1B), (0xD9, 0xBB), (0xBB, 0x55)] [])
      0x0102 0x00 .run [(0x00, 0x55), (0xD9, 0xBC)] = true ∧
    goes (rig [0x51, 0x00] 0x0100 0x00 [(0x00, 0x01), (0x01, 0x1B), (0xD9, 0xBB), (0xBB, 0x55)] [])
      0x0102 0x00 .run [(0x01, 0x55), (0x00, 0x01), (0xD9, 0xBC)] = true := by decide

theorem test_push :
    goes (rig [0x70, 0x40] 0x0100 0x00 [(0x40, 0x4F), (0x4F, 0xAA), (0xD9, 0xC0)] [])
      0x0102 0x00 .run [(0xBF, 0x4F), (0xD9, 0xBF)] = true ∧
    goes (rig [0x71, 0x40] 0x0100 0x00 [(0x40, 0x4F), (0x4F, 0xAA), (0xD9, 0xC0)] [])
      0x0102 0x00 .run [(0xBF, 0xAA), (0xD9, 0xBF)] = true := by decide

theorem test_call :
    goes (withRom 65536 (rig [0xF6, 0x15, 0x21] 0x1A47 0x00 [(0xC0, 0x15), (0xC1, 0x21), (0xD9, 0xB2)] []))
      0x1521 0x00 .run [(0xB0, 0x1A), (0xB1, 0x4A), (0xD9, 0xB0)] = true ∧
    goes (withRom 65536 (rig [0xF4, 0xC0] 0x1A47 0x00 [(0xC0, 0x15), (0xC1, 0x21), (0xD9, 0xB2)] []))
      0x1521 0x00 .run [(0xB0, 0x1A), (0xB1, 0x49), (0xD9, 0xB0)] = true := by decide

theorem test_ret :
    goes (withRom 65536 (rig [0xAF] 0x1234 0x00 [(0xD9, 0xBC), (0xBC, 0x10), (0xBD, 0x1A)] []))
      0x101A 0x00 .run [(0xD9, 0xBE)] = true := by decide

theorem test_jp :
    goes (rig [0x7D, 0x10, 0x00] 0x0100 0x80 [] [])
      0x1000 0x80 .run [] = true ∧
    goes (rig [0x30, 0x00] 0x0100 0x00 [(0x00, 0x01), (0x01, 0x20)] [])
      0x0120 0x00 .run [] = true := by decide

theorem test_jr :
    goes (withRom 65536 (rig [0x7B, 0x05] 0x1FF0 0x80 [] []))
      0x1FF7 0x80 .run [] = true := by decide

theorem test_ccf :
    goes (rig [0xEF] 0x0100 0x00 [] [])
      0x0101 0x80 .run [] = true := by decide

theorem test_rcf :
    goes (rig [0xCF] 0x0100 0xF0 [] [])
      0x0101 0x70 .run [] = true := by decide

theorem test_scf :
    goes (rig [0xDF] 0x0100 0x70 [] [])
      0x0101 0xF0 .run [] = true := by decide

theorem test_di :
    goes (rig [0x8F] 0x0100 0x00 [(0xDF, 0x04)] [])
      0x0101 0x00 .run [(0xDF, 0x00)] = true := by decide

theorem test_ei :
    goes (rig [0x9F] 0x0100 0x00 [(0xDF, 0x00)] [])
      0x0101 0x00 .run [(0xDF, 0x04)] = true := by decide

theorem test_nop :
    goes (rig [0xFF] 0x0100 0x00 [] [])
      0x0101 0x00 .run [] = true := by decide

theorem test_wraps :
    goes (rig [0x87, 0x12, 0xF0] 0x0100 0x00 [(0xC2, 0x20), (0x10, 0x77)] [])
      0x0103 0x00 .run [(0xC1, 0x77)] = true ∧
    goes (rig [0x97, 0x12, 0xFF] 0x0100 0x00 [(0xC2, 0x02), (0xC1, 0x66)] [])
      0x0103 0x00 .run [(0x01, 0x66)] = true ∧
    goes (rig [0xE7, 0x02, 0xFF] 0x0300 0x00 [(0xC2, 0x02), (0xC3, 0x00)] [(0x01FF, 0x5C)])
      0x0303 0x00 .run [(0xC0, 0x5C), (0xC2, 0x02), (0xC3, 0x00)] = true ∧
    goes (rig [0xA7, 0x12, 0x10, 0xFF] 0x0300 0x00 [(0xC2, 0x02), (0xC3, 0x00)] [(0x0110, 0x42)])
      0x0304 0x00 .run [(0xC1, 0x42)] = true := by decide

theorem test_ldci_ldcd_overlap :
    goes (rig [0xE3, 0x12] 0x0300 0x00 [(0xC2, 0x00), (0xC3, 0xFF)] [(0x00FF, 0x21)])
      0x0302 0x00 .run [(0xC1, 0x21), (0xC2, 0x01), (0xC3, 0x00)] = true ∧
    goes (rig [0xE3, 0x32] 0x0300 0x00 [(0xC2, 0x02), (0xC3, 0x10)] [(0x0210, 0xFF)])
      0x0302 0x00 .run [(0xC2, 0x03), (0xC3, 0x00)] = true ∧
    goes (rig [0xE3, 0x22] 0x0300 0x00 [(0xC2, 0x02), (0xC3, 0x10)] [(0x0210, 0x0F)])
      0x0302 0x00 .run [(0xC2, 0x0F), (0xC3, 0x11)] = true ∧
    goes (rig [0xE2, 0x12] 0x0300 0x00 [(0xC2, 0x01), (0xC3, 0x00)] [(0x0100, 0x22)])
      0x0302 0x00 .run [(0xC1, 0x22), (0xC2, 0x00), (0xC3, 0xFF)] = true ∧
    goes (rig [0xE2, 0x12] 0x0300 0x00 [(0xC2, 0x00), (0xC3, 0x00)] [(0x0000, 0x23)])
      0x0302 0x00 .run [(0xC1, 0x23), (0xC2, 0xFF), (0xC3, 0xFF)] = true := by decide

theorem test_stack_corner_cases :
    goes (rig [0x70, 0xD9] 0x0100 0x00 [(0xD9, 0x80)] [])
      0x0102 0x00 .run [(0xD9, 0x7F), (0x7F, 0x7F)] = true ∧
    goes (rig [0x50, 0xD9] 0x0100 0x00 [(0xD9, 0x80), (0x80, 0x40)] [])
      0x0102 0x00 .run [(0xD9, 0x41)] = true ∧
    goes (rig [0x50, 0xD5] 0x0100 0x00 [(0xD9, 0x80), (0x80, 0xFF)] [])
      0x0102 0xF0 .run [(0xD9, 0x81)] = true ∧
    goes (rig [0x70, 0x40] 0x0100 0x00 [(0xD9, 0x01), (0x40, 0x77)] [])
      0x0102 0x00 .run [(0x00, 0x77), (0xD9, 0x00)] = true ∧
    refuses (rig [0x70, 0x40] 0x0100 0x00 [(0xD9, 0x00)] []) (.reservedRegister 0xFF) = true := by decide

theorem test_writes_refused :
    refuses (rig [0x09, 0xD0] 0x0100 0x00 [] []) (.writeToReadOnly 0xD0) = true ∧
    refuses (rig [0x09, 0xD3] 0x0100 0x00 [] []) (.reservedRegister 0xD3) = true ∧
    refuses (rig [0xE6, 0xDF, 0x01] 0x0100 0x00 [] []) .symPageSelect = true ∧
    refuses (rig [0xE6, 0xDC, 0x0C] 0x0100 0x00 [] []) .btconIllegalClock = true := by decide

theorem test_control_register_writes :
    goes (rig [0xE6, 0xE8, 0x0F] 0x0100 0x00 [] [])
      0x0103 0x00 .run [(0xE8, 0x0A)] = true ∧
    goes (rig [0xE6, 0xD5, 0xFF] 0x0100 0x00 [] [])
      0x0103 0xF0 .run [] = true := by decide

theorem test_jr_jp_corner_cases :
    goes (rig [0x8B, 0xFE] 0x0100 0x00 [] [])
      0x0100 0x00 .run [] = true ∧
    goes (rig [0x8B, 0x80] 0x0200 0x00 [] [])
      0x0182 0x00 .run [] = true ∧
    goes (rig [0x8B, 0x80] 0x0010 0x00 [] [])
      0xFF92 0x00 .run [] = true ∧
    goes (rig [0x0B, 0x05] 0x0100 0x00 [] [])
      0x0102 0x00 .run [] = true ∧
    goes (rig [0xED, 0x02, 0x34] 0x0100 0x40 [] [])
      0x0103 0x40 .run [] = true ∧
    goes (rig [0xED, 0x02, 0x34] 0x0100 0x00 [] [])
      0x0234 0x00 .run [] = true ∧
    goes (rig [0x30, 0xC2] 0x0100 0x00 [(0xC2, 0x03), (0xC3, 0x45)] [])
      0x0345 0x00 .run [] = true ∧
    refuses (rig [0x30, 0x01] 0x0100 0x00 [] []) (.oddRegisterPair 0x01) = true := by decide

theorem test_call_corner_cases :
    refuses (rig [0xF4, 0xC1] 0x0100 0x00 [] []) (.oddRegisterPair 0xC1) = true ∧
    goes (rig [0xF6, 0x02, 0x00] 0x0150 0x00 [(0xD9, 0xC0)] [])
      0x0200 0x00 .run [(0xBF, 0x53), (0xBE, 0x01), (0xD9, 0xBE)] = true ∧
    goes (rig [0xF4, 0x40] 0x01FE 0x00 [(0xD9, 0x42), (0x40, 0x02), (0x41, 0x22)] [])
      0x0222 0x00 .run [(0x41, 0x00), (0x40, 0x02), (0xD9, 0x40)] = true := by decide

theorem test_iret :
    goes (rig [0xBF] 0x0100 0x00 [(0xD9, 0xBD), (0xBD, 0x40), (0xBE, 0x01), (0xBF, 0x23)] [])
      0x0123 0x40 .run [(0xD9, 0xC0), (0xDF, 0x04)] = true ∧
    goes (rig [0xBF] 0x0100 0x00 [(0xD9, 0x90), (0x90, 0xA0), (0x91, 0x03), (0x92, 0x21)] [])
      0x0321 0xA0 .run [(0xD9, 0x93), (0xDF, 0x04)] = true := by decide

theorem test_stop_idle :
    goes (rig [0x7F] 0x0234 0x50 [(0xD9, 0x90), (0xDF, 0x04)] [])
      0x0100 0x50 .run [(0xD9, 0x90), (0xDF, 0x04)] = true ∧
    goes (rig [0x7F] 0x0234 0x00 [(0xF4, 0xA5)] [])
      0x0235 0x00 .stop [(0xF4, 0xA5)] = true ∧
    goes (rig [0x6F] 0x0234 0x00 [] [])
      0x0235 0x00 .idle [] = true := by decide

theorem test_nop_at_the_end_of_rom :
    goes (rig [0xFF] 0x0FFF 0x00 [] [])
      0x1000 0x00 .run [] = true := by decide

theorem test_undefined_opcodes :
    faults (rig [0x07] 0x0100 0x00 [] []) (.undefinedOpcode 0x07) = true ∧
    faults (rig [0xF0] 0x0100 0x00 [] []) (.undefinedOpcode 0xF0) = true := by decide

/-! ### Placing an instruction -/

theorem test_withFetchWord :
    goes (State.reset.withFetchWord 24 0x0607A5) 0x0103 0x20 .run [(0x07, 0xA5)] = true ∧
    goes (State.reset.withFetchWord 8 0x8F) 0x0101 0x00 .run [] = true := by decide

/-! ### Witnesses: for every obligation with hypotheses, a state and operands that meet them -/

/-- A running machine after reset: every ROM byte FFH. -/
def run0 : State := { State.reset with mode := .run }

/-- Whether an outcome is a next state. -/
def goesOn (o : Host.Outcome State Fault Refusal) : Bool :=
  match o with
  | .next _ => true
  | .fault _ => false
  | .refused _ => false

theorem exists_next {o : Host.Outcome State Fault Refusal} (h : goesOn o = true) :
    ∃ t, o = .next t := by
  cases o with
  | next t => exact ⟨t, rfl⟩
  | fault f => exact absurd h (by simp [goesOn])
  | refused r => exact absurd h (by simp [goesOn])

theorem witness_DecodeOfEncode :
    (Instr.ldc_r_XL 15 0xFFFF 7).wellFormed = true ∧ (Instr.lde_XL_r 0 1 0).wellFormed = true ∧
    (Instr.add_r_r 0 15).wellFormed = true := by decide

theorem witness_EncodeOfDecode :
    decode [0xB7, 0x71, 0x05, 0x11] = .instr (.lde_DA_r 0x1105 7) ∧
    decode [0x00, 0x00] = .instr (.dec_R 0x00) ∧ decode [0xFF] = .instr .nop := by decide

theorem witness_LengthFromFirstByte :
    decode [0x00, 0x01] = .instr (.dec_R 0x01) ∧
    decode [0xE3, 0x01] = .instr (.ldei_r_Irr 0 0) ∧
    decode [0x04, 0x01, 0x02] = .instr (.add_R_R 0x02 0x01) ∧
    decode [0xF4, 0x02] = .instr (.call_IRR 0x02) ∧
    decode [0xF6, 0x02, 0x03] = .instr (.call_DA 0x0203) ∧
    decode [0x87, 0x12, 0x03] = .instr (.ld_r_X 1 0x03 2) ∧
    decode [0xA7, 0x00, 0x03, 0x01] = .instr (.ldc_r_DA 0 0x0103) ∧
    decode [0xC7, 0x12] = .instr (.ld_r_Ir 1 2) ∧ decode [0x08, 0x12] = .instr (.ld_r_R 0 0x12) ∧
    decode [0xFC, 0x12] = .instr (.ld_r_IM 15 0x12) ∧
    decode [0x0D, 0x01, 0x02] = .instr (.jp_cc_DA .f 0x0102) ∧
    decode [0x0E] = .instr (.inc_r 0) ∧ decode [0xFF] = .instr .nop := by decide

theorem witness_UndefinedOpcodeStops :
    let s := placeProg 0x0100 [0x5F] run0
    s.runsNext ∧ s.pc.toNat < s.cfg.romSize ∧ progByte s.pc s ∈ undefinedOpcodes := by decide

theorem witness_OperandForms : ∃ r o, r = Source.place o := ⟨_, .reg 0x01, rfl⟩

theorem witness_StepRunsDecodedInstruction :
    let s := rig [0xE6, 0xD9, 0xC0] 0x0FFD 0x00 [] []
    s.runsNext ∧ (∀ k < 3, (s.pc + BitVec.ofNat 16 k).toNat < s.cfg.romSize) ∧
      (Instr.ld_R_IM 0xD9 0xC0).length = 3 ∧
      decode (progBytes 3 s.pc s) = .instr (.ld_R_IM 0xD9 0xC0) := by decide

/-- A machine with an interrupt request to take: Timer 0 enabled and pending. -/
def requested : State :=
  rig [0xFF] 0x0123 0x40 [(0xDF, 0x04)] [(0x0000, 0x01), (0x0001, 0x80)]
    |> fun s => { s with t0 := { s.t0 with con := 0x03 } }

/-- The entry of 95_test_vectors.md section 6, line 1 (BDH holds FLAGS with free low bits). -/
theorem test_interrupt_entry :
    goes requested 0x0180 0x40 .run [(0xD9, 0xBD), (0xDF, 0x00)] = true ∧
    goes { requested with sym := 0x00 } 0x0124 0x40 .run [(0xD9, 0xC0)] = true ∧
    goes { requested with t0 := { requested.t0 with con := 0x02 } } 0x0124 0x40 .run
      [(0xD9, 0xC0)] = true := by decide

theorem witness_StepTakesInterruptFirst :
    requested.mode = .run ∧
    resetRequest requested.nextInput.powerOn requested.dropInput = none ∧
    requested.gie = true ∧ requested.irq = true := by decide

theorem witness_FetchOutOfRangeStops :
    let s := { run0 with pc := 0x1000 }
    let u := rig [0xE6, 0xD9] 0x0FFE 0x00 [] []
    (s.runsNext ∧ s.cfg.romSize ≤ s.pc.toNat) ∧
    u.runsNext ∧ opLength (progByte u.pc u) = some 3 ∧
      (∀ j < 2, (u.pc + BitVec.ofNat 16 j).toNat < u.cfg.romSize) ∧
      u.cfg.romSize ≤ (u.pc + BitVec.ofNat 16 2).toNat := by decide

theorem witness_InvKept :
    State.Inv (rig [0x0C, 0x10] 0x0100 0xF0 [(0x00, 0x01), (0xCF, 0x02)] []) ∧
    ∃ t, step (rig [0x0C, 0x10] 0x0100 0xF0 [(0x00, 0x01), (0xCF, 0x02)] []) = .next t :=
  ⟨by decide, exists_next (by decide)⟩

theorem witness_ProgramMemoryConstant :
    run0.cfg.progWritable = false ∧ ∃ t, step run0 = .next t :=
  ⟨by decide, exists_next (by decide)⟩

theorem witness_RegisterReads : (0x00 : Byte).toNat < 0xD0 ∧ (0xCF : Byte).toNat < 0xD0 := by
  decide

theorem witness_PlainRegistersReadBack :
    Memory.wf ramDefault ramSize State.reset.ram ∧ (0xCF : Byte).toNat < 0xD0 ∧
    (0x00 : Byte).toNat < 0xD0 := by decide

theorem witness_ControlRegisterWrites :
    (0xA3 : Byte).extractLsb' 2 2 ≠ 3 ∧ (0x05 : Byte).getLsbD 0 = true ∧
    (0x04 : Byte).getLsbD 0 = false ∧ (0x04 : Byte).extractLsb' 0 2 = 0 ∧
    ((0xC0 : Byte) &&& 0x3F = 0 ∧ run0.ftstcon = 0) ∧
    (0x01 : Byte).extractLsb' 1 2 = 0 ∧ (0x03 : Byte).extractLsb' 1 2 = 1 ∧
    (0x05 : Byte).extractLsb' 1 2 = 2 ∧ (0x07 : Byte).extractLsb' 1 2 = 3 := by decide

theorem witness_RefusedRegisterWrites :
    writeReg 0xD3 0x00 run0 = .refused (.reservedRegister 0xD3) ∧
    writeReg 0xFF 0x00 run0 = .refused (.reservedRegister 0xFF) ∧
    writeReg 0xD0 0x00 run0 = .refused (.writeToReadOnly 0xD0) ∧
    writeReg 0xF9 0x00 run0 = .refused (.writeToReadOnly 0xF9) ∧
    ((0x01 : Byte) &&& 0x3F ≠ 0 ∧ writeReg 0xDE 0x01 run0 = .refused .ftstconNotZero) ∧
    ((0x0C : Byte).extractLsb' 2 2 = 3 ∧
      writeReg 0xDC 0x0C run0 = .refused .btconIllegalClock) ∧
    ((0x01 : Byte).extractLsb' 0 2 ≠ 0 ∧ writeReg 0xDF 0x01 run0 = .refused .symPageSelect) :=
  ⟨rfl, rfl, rfl, rfl, ⟨by decide, rfl⟩, ⟨by decide, rfl⟩, ⟨by decide, rfl⟩⟩

theorem witness_WorkingRegistersAndPairs : Memory.wf ramDefault ramSize run0.ram := by decide

theorem witness_PortReads :
    p0Mode run0.ports 0 = .input ∧ p0Mode (storeReg 0xE6 0x80 run0).ports 7 = .pushPull ∧
    p1Mode run0.cfg run0.ports 2 = .input ∧
    p1Mode run0.cfg (storeReg 0xE9 0x02 run0).ports 0 = .pushPull ∧
    p2Mode run0.ports 0 = .input ∧ p2Mode (storeReg 0xEA 0x40 run0).ports 6 = .pushPull ∧
    p0Mode (storeReg 0xE7 0x03 run0).ports 0 = .analog ∧
    p0Mode (storeReg 0xE6 0x10 run0).ports 6 = .alternative ∧
    p1Mode run0.cfg (storeReg 0xE9 0x88 run0).ports 1 = .openDrain ∧
    p1Mode { run0.cfg with oscillator := .crystal } run0.ports 0 = .taken ∧
    p2Mode (storeReg 0xEB 0x0C run0).ports 1 = .openDrain ∧
    p2Mode (storeReg 0xEA 0x20 run0).ports 6 = .analog ∧
    p2Mode (storeReg 0xEA 0x70 run0).ports 6 = .alternative := by decide

/-- Whether a result can be stored at an operand's address that is not FLAGS. -/
def storable (q : Fetched) (v : Byte) : Bool := writeRefusal q.addr v == none && q.addr != 0xD5

/-- The start state of the ADC and SBC examples (95_test_vectors.md 2.1). -/
def sums : State :=
  rig [0xFF] 0x0100 0x80 [(0xC1, 0x10), (0xC2, 0x03), (0x01, 0x20), (0x02, 0x03), (0x03, 0x0A)] []

/-- The five two-operand forms with a destination that takes the result. -/
def twoForms (rule : Czsv → Byte → Byte → Alu) : Bool :=
  [fetchTwo (.r 1) (.place (.r 2)) sums, fetchTwo (.r 15) (.place (.ir 2)) sums,
   fetchTwo (.reg 0x00) (.place (.reg 0x02)) sums, fetchTwo (.reg 0xCF) (.place (.ireg 0x02)) sums,
   fetchTwo (.reg 0xF2) (.imm 0x8A) sums].all fun q =>
    storable q (rule sums.czsv q.dv q.sv).1

/-- The one-operand forms with a destination that takes the result. -/
def oneForms (rule : Czsv → Byte → Alu) : Bool :=
  [fetchOne (.reg 0x00) sums, fetchOne (.reg 0xCF) sums, fetchOne (.ireg 0x02) sums].all fun q =>
    storable q (rule sums.czsv q.dv).1

theorem witness_AdcAndAdd :
    twoForms (fun f dv sv => sumRule f.c.toNat dv sv) = true ∧
    twoForms (fun _ dv sv => sumRule 0 dv sv) = true := by decide

theorem witness_SbcAndSub :
    twoForms (fun f dv sv => diffRule f.c.toNat dv sv) = true ∧
    twoForms (fun _ dv sv => diffRule 0 dv sv) = true := by decide

theorem witness_DecrementResult : oneForms (fun f dv => aluDec f dv) = true := by decide

theorem witness_IncrementResult :
    oneForms (fun f dv => aluInc f dv) = true ∧
    storable (fetchOne (.r 15) sums) 0x01 = true := by decide

theorem witness_LogicOperations :
    twoForms (fun f dv sv => logicRule f (dv &&& sv)) = true ∧
    twoForms (fun f dv sv => logicRule f (dv ||| sv)) = true ∧
    twoForms (fun f dv sv => logicRule f (dv ^^^ sv)) = true ∧
    oneForms (fun f dv => logicRule f (BitVec.ofNat 8 (255 - dv.toNat))) = true := by decide

theorem witness_RotatesAndShift :
    oneForms aluRl = true ∧ oneForms aluRlc = true ∧ oneForms aluRr = true ∧
    oneForms aluRrc = true ∧ oneForms aluSra = true := by decide

theorem witness_ResultStoreStops :
    (let q := fetchTwo (.reg 0xD0) (.imm 0x01) sums
     writeRefusal q.addr (aluAdd sums.czsv q.dv q.sv).1 = some (.writeToReadOnly 0xD0)) ∧
    (fetchTwo (.reg 0xD5) (.imm 0x01) sums).addr = 0xD5 ∧
    (let q := fetchOne (.reg 0xDD) sums
     writeRefusal q.addr (aluInc sums.czsv q.dv).1 = some (.writeToReadOnly 0xDD)) ∧
    (fetchOne (.reg 0xD5) sums).addr = 0xD5 := by decide

/-- A machine whose registers point at FLAGS, at T0CNT and at 40H. -/
def pointing : State :=
  rig [0xFF] 0x0100 0x00 [(0xC0, 0xD0), (0xC1, 0x40), (0x10, 0xD0), (0x11, 0x40), (0x12, 0xD3)] []

theorem witness_ClearAndLoad :
    writeRefusal 0x00 0x00 = none ∧ writeRefusal (peek 0x11 pointing) 0x00 = none ∧
    writeRefusal 0xCF (peek (wr 1) pointing) = none ∧
    writeRefusal (peek (wr 1) pointing) (peek (wr 0) pointing) = none ∧
    writeRefusal 0x00 (peek 0x11 pointing) = none ∧
    writeRefusal 0xF2 (peek (peek 0x11 pointing) (afterRead 0x11 pointing)) = none ∧
    writeRefusal 0xD9 0xC0 = none ∧ writeRefusal (peek 0x11 pointing) 0x10 = none ∧
    writeRefusal (peek 0x11 pointing) (peek 0x10 (afterRead 0x11 pointing)) = none := by decide

theorem witness_LoadIndexed :
    writeRefusal (BitVec.ofNat 8 ((0xFF : Byte).toNat + (peek (wr 1) pointing).toNat))
      (peek (wr 0) pointing) = none := by decide

theorem witness_MoveStops :
    let x : Refusal := .writeToReadOnly 0xD0
    writeRefusal 0xD0 0x00 = some x ∧ writeRefusal (peek 0x10 pointing) 0x00 = some x ∧
    writeRefusal 0xD0 (peek (wr 1) pointing) = some x ∧
    writeRefusal (peek (wr 0) pointing) (peek (wr 1) pointing) = some x ∧
    writeRefusal 0xD0 (peek 0x11 pointing) = some x ∧
    writeRefusal 0xD0 (peek (peek 0x11 pointing) (afterRead 0x11 pointing)) = some x ∧
    writeRefusal 0xD0 0x55 = some x ∧ writeRefusal (peek 0x10 pointing) 0x55 = some x ∧
    writeRefusal (peek 0x10 pointing) (peek 0x11 (afterRead 0x10 pointing)) = some x ∧
    writeRefusal (0x90 + peek (wr 1) pointing) (peek (wr 1) pointing) = some x ∧
    writeRefusal 0xD0 (peek pointing.sp pointing) = some x ∧
    writeRefusal (peek 0x10 pointing) (peek pointing.sp (afterRead 0x10 pointing)) = some x ∧
    (let s := { pointing with sp := 0xD1 }
     writeRefusal (s.sp - 1) (peek 0x11 { s with sp := s.sp - 1 }) = some x ∧
     writeRefusal (s.sp - 1) (peek (peek 0x11 s) { afterRead 0x11 s with sp := s.sp - 1 }) =
       some x) := by decide

/-- A machine with the pair RR2 = 0FFFH, RR4 = 1000H and RR6 = 0F00H. -/
def pairs : State :=
  rig [0xFF] 0x0100 0x00
    [(0xC2, 0x0F), (0xC3, 0xFF), (0xC4, 0x10), (0xC5, 0x00), (0xC6, 0x0F), (0xC7, 0x00)] []

theorem witness_LdcLoads :
    (pairValue 1 pairs).toNat + 1 = pairs.cfg.romSize ∧
    (pairValue 2 pairs).toNat = pairs.cfg.romSize ∧
    (pairValue 1 pairs + (0xFF : Byte).signExtend 16).toNat < pairs.cfg.romSize ∧
    pairs.cfg.romSize ≤ (pairValue 1 pairs + (0x01 : Byte).signExtend 16).toNat ∧
    (pairValue 3 pairs + 0x00FF).toNat < pairs.cfg.romSize ∧
    pairs.cfg.romSize ≤ (pairValue 3 pairs + 0x0100).toNat ∧
    (0x0FFF : Word).toNat < pairs.cfg.romSize ∧ pairs.cfg.romSize ≤ (0x1000 : Word).toNat := by
  decide

/-- The same machine with writable program memory and with external data memory. -/
def writable : State :=
  { pairs with cfg := { pairs.cfg with progWritable := true, hasDataMem := true } }

theorem witness_LdcStores :
    pairs.cfg.progWritable = false ∧ writable.cfg.progWritable = true ∧
    (pairValue 1 writable).toNat < writable.cfg.romSize ∧
    writable.cfg.romSize ≤ (pairValue 2 writable).toNat ∧
    Memory.wf progDefault addressSpace writable.prog := by decide

theorem witness_LdeForms :
    pairs.cfg.hasDataMem = false ∧ writable.cfg.hasDataMem = true ∧
    Memory.wf dataDefault addressSpace writable.data := by decide

theorem witness_LoadAndStepPair :
    (pairValue 1 pairs).toNat < pairs.cfg.romSize ∧
    pairs.cfg.romSize ≤ (pairValue 2 pairs).toNat ∧ writable.cfg.hasDataMem = true ∧
    pairs.cfg.hasDataMem = false := by decide

theorem witness_PopAndPush :
    let s := pointing
    writeRefusal 0x00 (peek s.sp s) = none ∧
    writeRefusal (peek 0x11 s) (peek s.sp (afterRead 0x11 s)) = none ∧
    writeRefusal (s.sp - 1) (peek 0x00 { s with sp := s.sp - 1 }) = none ∧
    writeRefusal (s.sp - 1) (peek (peek 0x11 s) { afterRead 0x11 s with sp := s.sp - 1 }) =
      none := by decide

theorem witness_Jumps :
    (0xC2 : Byte).getLsbD 0 = false ∧ (0xC1 : Byte).getLsbD 0 = true ∧
    (Czsv.ofByte 0x40).holds .z = true ∧ (Czsv.ofByte 0x40).holds .nz = false := by decide

theorem witness_Calls :
    let s := run0
    let v := storeReg (s.sp - 1) 0x03 { s with sp := s.sp - 1 }
    (0xC1 : Byte).getLsbD 0 = true ∧ (0xC0 : Byte).getLsbD 0 = false ∧
    writeRefusal (s.sp - 1) 0x03 = none ∧ writeRefusal (v.sp - 1) 0x01 = none ∧
    (s.sp - 1).toNat < 0xD0 ∧ (s.sp - 2).toNat < 0xD0 ∧ Memory.wf ramDefault ramSize s.ram ∧
    writeRefusal ((0x00 : Byte) - 1) 0x03 = some (.reservedRegister 0xFF) ∧
    writeRefusal ((0xD2 : Byte) - 1) 0x03 = none ∧
    writeRefusal ((0xD1 : Byte) - 1) 0x01 = some (.writeToReadOnly 0xD0) := by decide

theorem witness_IdleAndStop :
    (storeReg 0xF4 0xA5 run0).stopcon = 0xA5 ∧ run0.stopcon ≠ 0xA5 ∧
    (run0.setMode .stop).mode = .stop := by decide

theorem witness_ExecFrame :
    (∃ t, exec (.add_R_R 0x02 0x01) run0 = .next t) ∧ (0x03 : Byte).toNat < 0xD0 ∧
    0x03 ∉ (effects (.add_R_R 0x02 0x01) run0).file ∧
    (effects (.add_R_R 0x02 0x01) run0).sp = false ∧
    0x0100 ∉ (effects (.add_R_R 0x02 0x01) run0).prog :=
  ⟨exists_next (by decide), by decide, by decide, by decide, by decide⟩

theorem witness_FlagFrame :
    (∃ t, exec (.ld_R_IM 0xD9 0xC0) run0 = .next t) ∧
    0xD5 ∉ (effects (.ld_R_IM 0xD9 0xC0) run0).file ∧
    (effects (.ld_R_IM 0xD9 0xC0) run0).flags = .none ∧
    (∃ t, exec (.dec_R 0x40) run0 = .next t) ∧ 0xD5 ∉ (effects (.dec_R 0x40) run0).file ∧
    (effects (.dec_R 0x40) run0).flags = .zsv ∧ (∃ t, exec .ccf run0 = .next t) ∧
    (effects .ccf run0).flags = .carry :=
  ⟨exists_next (by decide), by decide, by decide, exists_next (by decide), by decide, by decide,
    exists_next (by decide), by decide⟩

theorem witness_SoftwareNeverSetsPending :
    (∃ t, exec (.ld_R_IM 0xE8 0x0F) { run0 with ports := { run0.ports with p0pnd := 0x05 } } =
      .next t) ∧ (0x05 : Byte).getLsbD 0 = true ∧ (0x05 : Byte).getLsbD 2 = true :=
  ⟨exists_next (by decide), by decide, by decide⟩

theorem witness_InterruptEntry :
    Memory.wf ramDefault ramSize requested.ram ∧ 2 ≤ requested.cfg.romSize ∧
    (requested.sp - 1).toNat < 0xD0 ∧ (requested.sp - 2).toNat < 0xD0 ∧
    (requested.sp - 3).toNat < 0xD0 := by decide

theorem witness_IretInvertsEntry :
    State.Inv requested ∧ requested.gie = true ∧ (requested.sp - 1).toNat < 0xD0 ∧
    (requested.sp - 2).toNat < 0xD0 ∧ (requested.sp - 3).toNat < 0xD0 ∧
    ∃ t, interruptEntry requested = .next t :=
  ⟨by decide, by decide, by decide, by decide, by decide, _, rfl⟩

theorem witness_ResetState :
    (ResetSource.resetPin = .resetPin ∨ ResetSource.resetPin = .watchdog) ∧
    (doReset .watchdog run0).mode = .resetWait ∧
    resetRequest false (doReset .watchdog run0) = none ∧
    (let s := { run0 with cfg := { run0.cfg with timeModel := .exact } }
     resetRequest false (doReset .resetPin s) = none ∧ s.cfg.timeModel = .exact) := by decide

theorem witness_ResetSources :
    resetRequest true run0 = some .powerOn ∧
    resetRequest false { run0 with pins := { run0.pins with vddLow := true } } = some .lvr ∧
    resetRequest false { run0 with cfg := { run0.cfg with lvrEnable := false }
                                   pins := { run0.pins with p1 := 0x3 } } = some .resetPin ∧
    resetRequest false { run0 with pins := { run0.pins with resetSeen := true } } = some .lvr ∧
    (let s := { run0 with cfg := { run0.cfg with lvrEnable := false } }
     s.cfg.lvrEnable = false ∧ (0x3 : BitVec 3).getLsbD 2 = false) ∧
    run0.cfg.lvrEnable = true ∧
    resetRequest false { run0 with bt := { run0.bt with request := true } } = some .watchdog ∧
    resetRequest false run0 = none := by decide

theorem witness_BasicTimerAndWatchdog :
    run0.mode ≠ .stop ∧ run0.div = 0 ∧ run0.bt.cnt = 0 ∧ run0.bt.con.extractLsb' 2 2 = 0 ∧
    (storeReg 0xDC 0xA4 run0).bt.con.extractLsb' 2 2 = 1 ∧
    (storeReg 0xDC 0x08 run0).bt.con.extractLsb' 2 2 = 2 := by decide

/-- The Timer 0 table of 95_test_vectors.md section 7, at t = 8 and t = 24. -/
theorem test_timer0_table :
    (let s := storeReg 0xD2 0x8A (storeReg 0xD1 0x02 run0)
     (ticks 8 s).t0.cnt = 0x01 ∧ (ticks 8 s).t0.con = 0x8A ∧ (ticks 24 s).t0.cnt = 0x00 ∧
       (ticks 24 s).t0.con = 0x8B) := by decide

/-- The end of the oscillator wait (95_test_vectors.md section 6, line 12). -/
theorem test_end_of_reset_wait :
    goes { State.reset with div := 0xFFF, bt := { State.reset.bt with cnt := 0x0F } }
      0x0100 0x00 .run [(0xDD, 0x10)] = true := by decide

/-- Under EXACT the wait ends at the rise, however many periods its step lists (R326). -/
theorem test_exact_end_of_wait :
    goes { State.reset with div := 0xFFE, bt := { State.reset.bt with cnt := 0x0F }
                            t0 := { State.reset.t0 with cnt := 0x0F }
                            cfg := { State.reset.cfg with timeModel := .exact }
                            inputs := [{ powerOn := false, events := [.ticks 5000] }] }
      0x0100 0x00 .run [(0xDD, 0x10), (0xD0, 0x10)] = true := by decide

/-- A RESET pulse within a step of STOP is seen, and the next step is the reset (R320). -/
theorem test_reset_pulse :
    (let s := { run0 with mode := .stop, cfg := { run0.cfg with lvrEnable := false } }
     let t := stepStop [.pins 0xFF 0x3 0x7F, .pins 0xFF 0x7 0x7F] s
     t.mode = .stop ∧ t.pins.p1 = 0x7 ∧ resetRequest false t = some .resetPin) := by decide

theorem witness_Timer0Matches :
    run0.mode ≠ .stop ∧ run0.div = 0 ∧ run0.t0.cnt = 0 ∧ run0.cfg.t0PeriodPlusOne = true ∧
    run0.t0.con.extractLsb' 6 2 = 0 ∧ (storeReg 0xD2 0x4A run0).t0.con.extractLsb' 6 2 = 1 ∧
    (storeReg 0xD2 0x8A run0).t0.con.extractLsb' 6 2 = 2 ∧
    (storeReg 0xD2 0xC0 run0).t0.con.extractLsb' 6 2 = 3 := by decide

theorem witness_PwmCounts :
    run0.mode ≠ .stop ∧ run0.pwm.con.getLsbD 2 = false ∧ run0.div = 0 ∧
    (let p := (storeReg 0xF3 0x06 run0).pwm.con
     p.getLsbD 2 = true ∧ p.extractLsb' 6 2 = 0) ∧
    (let p := (storeReg 0xF3 0x46 run0).pwm.con
     p.getLsbD 2 = true ∧ p.extractLsb' 6 2 = 1) ∧
    (let p := (storeReg 0xF3 0x86 run0).pwm.con
     p.getLsbD 2 = true ∧ p.extractLsb' 6 2 = 2) ∧
    (let p := (storeReg 0xF3 0xC6 run0).pwm.con
     p.getLsbD 2 = true ∧ p.extractLsb' 6 2 = 3) ∧
    (let p := (storeReg 0xF3 0xD6 run0).pwm.con
     p.getLsbD 2 = true ∧ p.extractLsb' 6 2 = 3 ∧ p.getLsbD 4 = true) := by decide

theorem witness_AdcConversion :
    run0.mode ≠ .stop ∧ (0x81 : Byte).getLsbD 0 = true ∧ (0x81 : Byte).extractLsb' 1 2 = 0 ∧
    (0x03 : Byte).extractLsb' 1 2 = 1 ∧ (0x05 : Byte).extractLsb' 1 2 = 2 ∧
    (0x07 : Byte).extractLsb' 1 2 = 3 ∧ ((0x81 : Byte).extractLsb' 4 4).toNat = 8 ∧
    8 < run0.cfg.adcChannels ∧ 9 ≤ ((0x91 : Byte).extractLsb' 4 4).toNat := by decide

theorem witness_PowerStateSteps :
    resetRequest false run0 = none ∧
    (let s := { requested with mode := .idle }
     resetRequest false s = none ∧ s.irq = true ∧ (s.cfg.wakeNeedsGie = true → s.gie = true)) ∧
    (let s := { run0 with mode := .idle }
     resetRequest false s = none ∧ s.irq = false) ∧
    (let s := { run0 with mode := .stop, ports := { run0.ports with p0pnd := 0x03 } }
     resetRequest false s = none ∧ s.clkcon.getLsbD 7 = false ∧ s.irqExt = true) ∧
    (let s := { run0 with mode := .stop, clkcon := 0x80 }
     resetRequest false s = none ∧ s.clkcon.getLsbD 7 = true) ∧
    (let s := { State.reset with div := 0xFFF, bt := { State.reset.bt with cnt := 0x0F } }
     let u := { s with cfg := { s.cfg with timeModel := .exact } }
     resetRequest false s = none ∧ (ticks 0 s).bt.stable = false ∧
       (ticks 1 s).bt.stable = true ∧ s.cfg.timeModel = .free ∧
       resetRequest false u = none ∧ (ticks 0 u).bt.stable = false ∧
       (ticks 1 u).bt.stable = true ∧ u.cfg.timeModel = .exact) ∧
    (ticks 1 State.reset).bt.stable = false := by decide

end Sys2Proof.Tests
end

section
/-! What an instruction can do to the state, said once: a finite run of basic writes, each of which
its `effects` list. The frames, the flags' frame and the invariant are read off it. -/

namespace Sys2Proof.Machine

/-- The flags an instruction may set, from those before it and those it sets (R17). -/
def FlagEffect.allows : FlagEffect → Czsv → Czsv → Prop
  | .none, _, _ => False
  | .zsv, f, g => g.c = f.c
  | .czsv, _, _ => True
  | .carry, f, g => g.z = f.z ∧ g.s = f.s ∧ g.v = f.v

/-- One change that an instruction with the effects `e` makes to the state. -/
inductive BasicWrite (e : Effects) : State → State → Prop where
  | draw (k : Nat) (s : State) : BasicWrite e s (s.drawMore k)
  | goto (w : Word) (s : State) : BasicWrite e s (s.goto w)
  | store {a v : Byte} (s : State) (ha : a ∈ e.file) (hv : writeRefusal a v = none) :
      BasicWrite e s (storeReg a v s)
  | prog {a : Word} (v : Byte) (s : State) (ha : a ∈ e.prog) :
      BasicWrite e s { s with prog := cellWrite progDefault s.prog a.toNat v }
  | data {a : Word} (v : Byte) (s : State) (ha : a ∈ e.data) :
      BasicWrite e s { s with data := cellWrite dataDefault s.data a.toNat v }
  | flags {f : Czsv} {s : State} (hf : e.flags.allows s.czsv f) : BasicWrite e s (s.setFlags f)
  | freeFlags (s : State) (ha : flagsAddr ∈ e.file) : BasicWrite e s s.freeFlags
  | sp (v : Byte) (s : State) (h : e.sp = true) : BasicWrite e s (s.setSp v)
  | gie (b : Bool) (s : State) (h : e.gie = true) : BasicWrite e s (s.setGie b)
  | mode {m : Mode} (s : State) (h : e.mode = true) (hm : m ≠ .resetWait) :
      BasicWrite e s (s.setMode m)

/-- A run of basic writes. -/
abbrev Writes (e : Effects) : State → State → Prop := Relation.ReflTransGen (BasicWrite e)

/-- What every basic write keeps, a run of them keeps. -/
theorem Writes.keeps {α : Type} {e : Effects} {s t : State} (view : State → α) (h : Writes e s t)
    (hw : ∀ u v, BasicWrite e u v → view v = view u) : view t = view s := by
  induction h with
  | refl => rfl
  | tail _ h ih => exact (hw _ _ h).trans ih

/-- A property that every basic write keeps holds after a run of them. -/
theorem Writes.invariant {P : State → Prop} {e : Effects} {s t : State} (h : Writes e s t)
    (hw : ∀ u v, BasicWrite e u v → P u → P v) (hs : P s) : P t := by
  induction h with
  | refl => exact hs
  | tail _ h ih => exact hw _ _ h ih

section
variable {e : Effects} {s t u : State}

/-! ### The shared operations as runs of basic writes -/

theorem Writes.advance (h : Writes e s t) (n : Nat) : Writes e s (t.advance n) :=
  h.tail (.goto (t.npc n) t)

theorem Writes.store {a v : Byte} (h : Writes e s t) (ha : a ∈ e.file)
    (hv : writeRefusal a v = none) : Writes e s (storeReg a v t) :=
  h.tail (.store t ha hv)

theorem writes_drawMore (k : Nat) (s : State) : Writes e s (s.drawMore k) :=
  .single (.draw k s)

theorem writes_address (o : Operand) (s : State) : Writes e s (o.address s).2 := by
  obtain ⟨k, hk⟩ := address_snd o s
  rw [hk]; exact writes_drawMore k s

theorem writes_readReg (h : Writes e s t) (a : Byte) : Writes e s (readReg a t).2 := by
  rw [readReg_snd]; exact h.tail (.draw _ t)

/-- Flags written after a store: allowed from the flags before it where it was not to FLAGS. -/
theorem writes_flagsAfterStore {a v : Byte} {f : Czsv} (h : Writes e s t) (ha : a ∈ e.file)
    (hv : writeRefusal a v = none) (hf : e.flags.allows t.czsv f) :
    Writes e s (flagsAfterStore a f (storeReg a v t)) := by
  unfold flagsAfterStore
  split
  · rename_i haf
    exact (h.store ha hv).tail (.freeFlags _ (haf ▸ ha))
  · rename_i haf
    refine (h.store ha hv).tail (.flags ?_)
    rwa [State.czsv, storeReg_flags haf]

/-- A result stored after reads that only draw free values. -/
theorem writes_storeResult {len k : Nat} {a : Byte} {out : Alu}
    (h : storeResult len a out (s.drawMore k) = .next t) (ha : a ∈ e.file)
    (hf : e.flags.allows s.czsv out.2) : Writes e s t := by
  obtain ⟨hv, rfl⟩ := storeResult_eq_next.mp h
  exact (writes_flagsAfterStore (writes_drawMore k s) ha hv hf).advance len

theorem writes_twoStore {op : Czsv → Byte → Byte → Alu} {len : Nat} {d : Operand} {o : Source}
    (h : twoStore op len d o s = .next t) (ha : (d.address s).1 ∈ e.file)
    (hf : ∀ dv sv, e.flags.allows s.czsv (op s.czsv dv sv).2) : Writes e s t := by
  obtain ⟨k, hk⟩ := fetchTwo_after d o s
  simp only [twoStore, hk] at h
  exact writes_storeResult h ha (hf _ _)

theorem writes_twoTest {op : Czsv → Byte → Byte → Alu} {len : Nat} {d : Operand} {o : Source}
    (h : twoTest op len d o s = .next t)
    (hf : ∀ dv sv, e.flags.allows s.czsv (op s.czsv dv sv).2) : Writes e s t := by
  obtain ⟨k, hk⟩ := fetchTwo_after d o s
  simp only [twoTest, hk, Host.Outcome.next.injEq] at h
  subst h
  exact Writes.advance ((writes_drawMore k s).tail (.flags (hf _ _))) len

theorem writes_oneStore {op : Czsv → Byte → Alu} {len : Nat} {d : Operand}
    (h : oneStore op len d s = .next t) (ha : (d.address s).1 ∈ e.file)
    (hf : ∀ dv, e.flags.allows s.czsv (op s.czsv dv).2) : Writes e s t := by
  obtain ⟨k, hk⟩ := address_snd d s
  simp only [oneStore, hk, readReg_snd, drawMore_drawMore] at h
  exact writes_storeResult h ha (hf _)

theorem writes_move {len : Nat} {d : Operand} {o : Source} (h : move len d o s = .next t)
    (ha : (d.address s).1 ∈ e.file) : Writes e s t := by
  obtain ⟨j, hj⟩ := address_snd d s
  obtain ⟨k, hk⟩ := value_snd o (d.address s).2
  obtain ⟨hv, rfl⟩ := move_eq_next.mp h
  have hw : Writes e s (o.value (d.address s).2).2 := by
    rw [hk, hj, drawMore_drawMore]; exact writes_drawMore _ s
  exact (hw.store ha hv).advance len

theorem writes_pushOperand {len : Nat} {o : Operand} (h : pushOperand len o s = .next t)
    (ha : s.sp - 1 ∈ e.file) (hsp : e.sp = true) : Writes e s t := by
  obtain ⟨k, hk⟩ := address_snd o s
  obtain ⟨u, hu, hv, rfl⟩ := pushOperand_eq_next.mp h
  have hsp' : u.2.sp = s.sp - 1 := by rw [hu, readReg_snd, hk]; rfl
  have hw : Writes e s u.2 := by
    rw [hu]; exact writes_readReg ((writes_address o s).tail (.sp _ _ hsp)) _
  exact (hw.store (hsp' ▸ ha) hv).advance len

theorem writes_popOperand {len : Nat} {o : Operand} (h : popOperand len o s = .next t)
    (ha : (o.address s).1 ∈ e.file) (hsp : e.sp = true) : Writes e s t := by
  obtain ⟨u, v, rfl, hv, rfl, rfl⟩ := popOperand_eq_next.mp h
  have hw := (writes_readReg (e := e) (writes_address o s) (o.address s).2.sp).store ha hv
  exact Writes.advance (hw.tail (.sp _ _ hsp)) len

theorem writes_push {v : Byte} (h : push v s = .next t) (ha : s.sp - 1 ∈ e.file)
    (hsp : e.sp = true) : Writes e s t := by
  obtain ⟨hv, rfl⟩ := push_eq_next.mp h
  exact Writes.store (.single (.sp _ s hsp)) ha hv

theorem writes_pop (s : State) (hsp : e.sp = true) : Writes e s (pop s).2 := by
  rw [pop_eq]
  exact (writes_drawMore _ s).tail (.sp _ _ hsp)

theorem writes_popWord (s : State) (hsp : e.sp = true) : Writes e s (popWord s).2 :=
  (writes_pop s hsp).trans (writes_pop (pop s).2 hsp)

/-- A word pushed: two stores, the second below the SP that the first leaves. -/
theorem writes_pushWord {w : Word} (h : pushWord w s = .next t) (ha : s.sp - 1 ∈ e.file)
    (hb : secondPush w s ∈ e.file) (hsp : e.sp = true) : Writes e s t := by
  obtain ⟨u, hlo, hhi⟩ := andThen_eq_next.mp h
  have hu : u = storeReg (s.sp - 1) (loByte w) (s.setSp (s.sp - 1)) := (push_eq_next.mp hlo).2
  exact (writes_push hlo ha hsp).trans (writes_push hhi (by rw [hu]; exact hb) hsp)

theorem secondPush_drawMore (w : Word) (k : Nat) (s : State) :
    secondPush w (s.drawMore k) = secondPush w s := by
  show (storeReg (s.sp - 1) (loByte w) ((s.setSp (s.sp - 1)).drawMore k)).sp - 1 = _
  rw [storeReg_drawMore]; rfl

theorem writes_callTo {len : Nat} {w : Word} (h : callTo len w s = .next t)
    (ha : s.sp - 1 ∈ e.file) (hb : secondPush (s.npc len) s ∈ e.file) (hsp : e.sp = true) :
    Writes e s t := by
  obtain ⟨u, hu, rfl⟩ := callTo_eq_next.mp h
  exact (writes_pushWord hu ha hb hsp).tail (.goto w u)

theorem writes_jumpIf {len : Nat} {cc : Cond} {w : Word} (h : jumpIf len cc w s = .next t) :
    Writes e s t := by
  simp only [jumpIf, Host.Outcome.next.injEq] at h
  subst h
  split
  · exact .single (.goto w s)
  · exact Writes.advance .refl len

theorem writes_loadWorking {len : Nat} {d : WReg} {v : Byte}
    (h : loadWorking len d s v = .next t) (ha : wr d ∈ e.file) : Writes e s t := by
  simp only [loadWorking, Host.Outcome.next.injEq] at h
  subst h
  exact Writes.advance (Writes.store .refl ha (writeRefusal_wr d v)) len

theorem writes_loadProg {len : Nat} {d : WReg} {ea : Word} (h : loadProg len d ea s = .next t)
    (ha : wr d ∈ e.file) : Writes e s t :=
  writes_loadWorking (withProgByte_eq_next.mp h).2 ha

theorem writes_loadData {len : Nat} {d : WReg} {ea : Word} (h : loadData len d ea s = .next t)
    (ha : wr d ∈ e.file) : Writes e s t :=
  writes_loadWorking (withDataByte_eq_next.mp h).2 ha

theorem writes_storeProg {len : Nat} {r : WReg} {ea : Word} (h : storeProg len ea r s = .next t)
    (ha : ea ∈ e.prog) : Writes e s t := by
  obtain ⟨u, hu, ht⟩ := andThen_eq_next.mp h
  obtain ⟨_, _, rfl⟩ := writeProg_eq_next.mp hu
  simp only [Host.Outcome.next.injEq] at ht
  subst ht
  exact Writes.advance (.single (.prog _ s ha)) len

theorem writes_storeData {len : Nat} {r : WReg} {ea : Word} (h : storeData len ea r s = .next t)
    (ha : ea ∈ e.data) : Writes e s t := by
  obtain ⟨u, hu, ht⟩ := andThen_eq_next.mp h
  obtain ⟨_, rfl⟩ := writeData_eq_next.mp hu
  simp only [Host.Outcome.next.injEq] at ht
  subst ht
  exact Writes.advance (.single (.data _ s ha)) len

theorem writes_loadThenStep {delta : Word} {d : WReg} {p : Pair} {v : Byte}
    (h : loadThenStep delta d p s v = .next t)
    (hf : e.file = [wr d, wr (pairReg p), wr (pairReg p) + 1]) : Writes e s t := by
  simp only [loadThenStep, Host.Outcome.next.injEq] at h
  subst h
  have hd := Writes.store (v := v) (.refl (a := s)) (show wr d ∈ e.file by simp [hf])
    (writeRefusal_wr d v)
  have hhi := hd.store (show wr (pairReg p) ∈ e.file by simp [hf])
    (writeRefusal_wr (pairReg p) (hiByte (pairValue p (storeReg (wr d) v s) + delta)))
  exact (hhi.store (show wr (pairReg p) + 1 ∈ e.file by simp [hf])
    (writeRefusal_ram (pairReg_odd_lt p) _)).advance 2

theorem writes_withTargetPair {a : Byte} {k : Word → State → Host.Outcome State Fault Refusal}
    (h : withTargetPair a s k = .next t)
    (hk : ∀ w j, k w (s.drawMore j) = .next t → Writes e s t) : Writes e s t := by
  obtain ⟨_, h⟩ := withTargetPair_eq_next.mp h
  obtain ⟨j, hj⟩ := readPair_snd a s
  rw [hj] at h
  exact hk _ j h

theorem writes_interruptReturn (h : interruptReturn s = .next t) (ha : flagsAddr ∈ e.file)
    (hsp : e.sp = true) (hg : e.gie = true) : Writes e s t := by
  rw [interruptReturn_eq, Host.Outcome.next.injEq] at h
  subst h
  have hw := ((writes_pop s hsp).store (v := (pop s).1) ha rfl).trans (writes_popWord _ hsp)
  exact (hw.tail (.goto _ _)).tail (.gie true _ hg)

/-- What taking an interrupt may write, from the states before it and after the push of the pc. -/
def entryEffects (s u : State) : Effects :=
  { file := [s.sp - 1, secondPush s.pc (s.setGie false), u.sp - 1], sp := true, gie := true }

/-- Taking an interrupt is a run of basic writes too. -/
theorem writes_interruptEntry (h : interruptEntry s = .next t) :
    ∃ u, Writes (entryEffects s u) s t := by
  obtain ⟨u, v, hu, hv, _, _, rfl⟩ := interruptEntry_eq_next.mp h
  have hgie : Writes (entryEffects s u) s (s.setGie false) := .single (.gie false s rfl)
  have hword : Writes (entryEffects s u) s u :=
    hgie.trans (writes_pushWord hu (by simp [entryEffects]) (by simp [entryEffects]) rfl)
  have hflags : Writes (entryEffects s u) s v :=
    (writes_readReg hword flagsAddr).trans (writes_push hv (by simp [entryEffects]) rfl)
  exact ⟨u, hflags.tail (.goto _ v)⟩

end

end Sys2Proof.Machine
end

section
namespace Sys2Proof.Machine

/-- EVERYTHING AN INSTRUCTION CAN DO: a run of basic writes that its `effects` list. -/
theorem exec_writes {i : Instr} {s t : State} (h : exec i s = .next t) :
    Writes (effects i s) s t := by
  cases i
  case add_r_r | add_r_Ir | add_R_R | add_R_IR | add_R_IM
      | adc_r_r | adc_r_Ir | adc_R_R | adc_R_IR | adc_R_IM
      | sub_r_r | sub_r_Ir | sub_R_R | sub_R_IR | sub_R_IM
      | sbc_r_r | sbc_r_Ir | sbc_R_R | sbc_R_IR | sbc_R_IM =>
    exact writes_twoStore h (List.mem_singleton.mpr rfl) fun _ _ => trivial
  case or_r_r | or_r_Ir | or_R_R | or_R_IR | or_R_IM
      | and_r_r | and_r_Ir | and_R_R | and_R_IR | and_R_IM
      | xor_r_r | xor_r_Ir | xor_R_R | xor_R_IR | xor_R_IM =>
    exact writes_twoStore h (List.mem_singleton.mpr rfl) fun _ _ => rfl
  case cp_r_r | cp_r_Ir | cp_R_R | cp_R_IR | cp_R_IM =>
    exact writes_twoTest h fun _ _ => trivial
  case tcm_r_r | tcm_r_Ir | tcm_R_R | tcm_R_IR | tcm_R_IM
      | tm_r_r | tm_r_Ir | tm_R_R | tm_R_IR | tm_R_IM =>
    exact writes_twoTest h fun _ _ => rfl
  case dec_R | dec_IR | inc_R | inc_IR | inc_r | com_R | com_IR =>
    exact writes_oneStore h (List.mem_singleton.mpr rfl) fun _ => rfl
  case rlc_R | rlc_IR | rl_R | rl_IR | rrc_R | rrc_IR | rr_R | rr_IR | sra_R | sra_IR =>
    exact writes_oneStore h (List.mem_singleton.mpr rfl) fun _ => trivial
  case clr_R | clr_IR | ld_r_IM | ld_r_R | ld_R_r | ld_r_Ir | ld_Ir_r | ld_R_R | ld_R_IR
      | ld_R_IM | ld_IR_IM | ld_IR_R | ld_r_X | ld_X_r =>
    exact writes_move h (List.mem_singleton.mpr rfl)
  case pop_R | pop_IR => exact writes_popOperand h (List.mem_singleton.mpr rfl) rfl
  case push_R | push_IR => exact writes_pushOperand h (List.mem_singleton.mpr rfl) rfl
  case ldc_r_Irr | ldc_r_XS | ldc_r_XL | ldc_r_DA =>
    exact writes_loadProg h (List.mem_singleton.mpr rfl)
  case ldc_Irr_r | ldc_XS_r | ldc_XL_r | ldc_DA_r =>
    exact writes_storeProg h (List.mem_singleton.mpr rfl)
  case lde_r_Irr | lde_r_XS | lde_r_XL | lde_r_DA =>
    exact writes_loadData h (List.mem_singleton.mpr rfl)
  case lde_Irr_r | lde_XS_r | lde_XL_r | lde_DA_r =>
    exact writes_storeData h (List.mem_singleton.mpr rfl)
  case ldcd_r_Irr | ldci_r_Irr => exact writes_loadThenStep (withProgByte_eq_next.mp h).2 rfl
  case lded_r_Irr | ldei_r_Irr => exact writes_loadThenStep (withDataByte_eq_next.mp h).2 rfl
  case jp_IRR a =>
    change withTargetPair a s (fun w u => .next (u.goto w)) = .next t at h
    refine writes_withTargetPair h fun w j hj => ?_
    cases hj
    exact (writes_drawMore j s).tail (.goto w _)
  case jp_cc_DA | jr_cc_RA => exact writes_jumpIf h
  case call_IRR =>
    refine writes_withTargetPair h fun w j hj =>
      (writes_drawMore j s).trans (writes_callTo hj (List.mem_cons_self ..) ?_ rfl)
    rw [secondPush_drawMore]
    exact List.mem_cons_of_mem _ (List.mem_singleton.mpr rfl)
  case call_DA =>
    exact writes_callTo h (List.mem_cons_self ..)
      (List.mem_cons_of_mem _ (List.mem_singleton.mpr rfl)) rfl
  case ret => cases h; exact (writes_popWord s rfl).tail (.goto _ _)
  case iret => exact writes_interruptReturn h (List.mem_singleton.mpr rfl) rfl rfl
  case idle => cases h; exact (Writes.advance .refl 1).tail (.mode _ rfl (by decide))
  case stop =>
    simp only [exec, execStop, Host.Outcome.next.injEq] at h
    subst h
    split
    · exact (Writes.advance .refl 1).tail (.mode _ rfl (by decide))
    · exact .single (.goto _ s)
  case di | ei => cases h; exact Writes.advance (.single (.gie _ s rfl)) 1
  case rcf | scf | ccf =>
    cases h
    refine Writes.advance (.single (.flags ?_)) 1
    exact ⟨rfl, rfl, rfl⟩
  case nop => cases h; exact Writes.advance .refl 1

end Sys2Proof.Machine
end

section
/-! The frames: what an instruction leaves unchanged, read off its basic writes. -/

namespace Sys2Proof.Machine

/-- What a change with the effects `e` leaves unchanged, register by register (R17, R59, R60). -/
structure Frame (e : Effects) (s t : State) : Prop where
  ram : ∀ b : Byte, b ∉ e.file →
    cellRead ramDefault t.ram b.toNat = cellRead ramDefault s.ram b.toNat
  prog : ∀ a : Word, a ∉ e.prog → progByte a t = progByte a s
  data : ∀ a : Word, a ∉ e.data → dataByte a t = dataByte a s
  t0 : 0xD1 ∉ e.file → 0xD2 ∉ e.file → t.t0 = s.t0
  clkcon : 0xD4 ∉ e.file → t.clkcon = s.clkcon
  sp : 0xD9 ∉ e.file → e.sp = false → t.sp = s.sp
  mdsreg : 0xDB ∉ e.file → t.mdsreg = s.mdsreg
  bt : 0xDC ∉ e.file → t.bt = s.bt
  div : 0xDC ∉ e.file → t.div = s.div
  ftstcon : 0xDE ∉ e.file → t.ftstcon = s.ftstcon
  sym : 0xDF ∉ e.file → e.gie = false → t.sym = s.sym
  p0 : 0xE0 ∉ e.file → t.ports.p0 = s.ports.p0
  p1 : 0xE1 ∉ e.file → t.ports.p1 = s.ports.p1
  p2 : 0xE2 ∉ e.file → t.ports.p2 = s.ports.p2
  p0conh : 0xE6 ∉ e.file → t.ports.p0conh = s.ports.p0conh
  p0conl : 0xE7 ∉ e.file → t.ports.p0conl = s.ports.p0conl
  p0pnd : 0xE8 ∉ e.file → t.ports.p0pnd = s.ports.p0pnd
  p1con : 0xE9 ∉ e.file → t.ports.p1con = s.ports.p1con
  p2conh : 0xEA ∉ e.file → t.ports.p2conh = s.ports.p2conh
  p2conl : 0xEB ∉ e.file → t.ports.p2conl = s.ports.p2conl
  pwm : 0xF2 ∉ e.file → 0xF3 ∉ e.file → t.pwm = s.pwm
  stopcon : 0xF4 ∉ e.file → t.stopcon = s.stopcon
  adc : 0xF7 ∉ e.file → t.adc = s.adc
  mode : e.mode = false → t.mode = s.mode
  clo : t.clo = s.clo
  pins : t.pins = s.pins
  cfg : t.cfg = s.cfg
  inputs : t.inputs = s.inputs

theorem Frame.refl (e : Effects) (s : State) : Frame e s s := by
  constructor <;> intros <;> rfl

/-- The address of a register that is one byte of the file (R21); plain storage and the reserved
addresses, which are many bytes, are named by one of them. -/
def FileReg.addr : FileReg → Byte
  | .ram => 0x00
  | .t0cnt => 0xD0
  | .t0data => 0xD1
  | .t0con => 0xD2
  | .clkcon => 0xD4
  | .flags => 0xD5
  | .sp => 0xD9
  | .mdsreg => 0xDB
  | .btcon => 0xDC
  | .btcnt => 0xDD
  | .ftstcon => 0xDE
  | .sym => 0xDF
  | .p0 => 0xE0
  | .p1 => 0xE1
  | .p2 => 0xE2
  | .p0conh => 0xE6
  | .p0conl => 0xE7
  | .p0pnd => 0xE8
  | .p1con => 0xE9
  | .p2conh => 0xEA
  | .p2conl => 0xEB
  | .pwmdata => 0xF2
  | .pwmcon => 0xF3
  | .stopcon => 0xF4
  | .adcon => 0xF7
  | .addatah => 0xF8
  | .addatal => 0xF9
  | .reserved => 0xFF

/-- Every control register stands at one address only. -/
theorem eq_addr_of_regAt {a : Byte} {r : FileReg} (h : regAt a = r)
    (hr : r ≠ .ram ∧ r ≠ .reserved) : a = r.addr := by
  subst h; revert a; decide

/-- A store reaches its own register only. -/
theorem storeReg_frame {e : Effects} {a : Byte} (ha : a ∈ e.file) (v : Byte) (s : State) :
    Frame e s (storeReg a v s) := by
  have same := Frame.refl e s
  have stored {r : FileReg} (hr : regAt a = r) (h : r ≠ .ram ∧ r ≠ .reserved) : r.addr ∈ e.file :=
    eq_addr_of_regAt hr h ▸ ha
  cases hr : regAt a <;> simp only [storeReg, hr]
  case ram =>
    refine { same with ram := fun b hb => cellRead_write_other _ _ _ fun h => ?_ }
    exact hb (BitVec.eq_of_toNat_eq h ▸ ha)
  case t0cnt | btcnt | addatah | addatal | reserved => exact same
  case flags => exact { same with }
  case t0data => exact { same with t0 := fun h _ => absurd (stored hr (by decide)) h }
  case t0con => exact { same with t0 := fun _ h => absurd (stored hr (by decide)) h }
  case clkcon => exact { same with clkcon := fun h => absurd (stored hr (by decide)) h }
  case sp => exact { same with sp := fun h _ => absurd (stored hr (by decide)) h }
  case mdsreg => exact { same with mdsreg := fun h => absurd (stored hr (by decide)) h }
  case btcon =>
    exact { same with
      bt := fun h => absurd (stored hr (by decide)) h
      div := fun h => absurd (stored hr (by decide)) h }
  case ftstcon => exact { same with ftstcon := fun h => absurd (stored hr (by decide)) h }
  case sym => exact { same with sym := fun h _ => absurd (stored hr (by decide)) h }
  case p0 => exact { same with p0 := fun h => absurd (stored hr (by decide)) h }
  case p1 => exact { same with p1 := fun h => absurd (stored hr (by decide)) h }
  case p2 => exact { same with p2 := fun h => absurd (stored hr (by decide)) h }
  case p0conh => exact { same with p0conh := fun h => absurd (stored hr (by decide)) h }
  case p0conl => exact { same with p0conl := fun h => absurd (stored hr (by decide)) h }
  case p0pnd => exact { same with p0pnd := fun h => absurd (stored hr (by decide)) h }
  case p1con => exact { same with p1con := fun h => absurd (stored hr (by decide)) h }
  case p2conh => exact { same with p2conh := fun h => absurd (stored hr (by decide)) h }
  case p2conl => exact { same with p2conl := fun h => absurd (stored hr (by decide)) h }
  case pwmdata => exact { same with pwm := fun h _ => absurd (stored hr (by decide)) h }
  case pwmcon => exact { same with pwm := fun _ h => absurd (stored hr (by decide)) h }
  case stopcon => exact { same with stopcon := fun h => absurd (stored hr (by decide)) h }
  case adcon => exact { same with adc := fun h => absurd (stored hr (by decide)) h }

/-- A cell of a 16-bit memory is left by a store to another address. -/
theorem cellRead_write_word (dflt : Byte) (m : Memory) {a b : Word} (v : Byte) (h : b ≠ a) :
    cellRead dflt (cellWrite dflt m a.toNat v) b.toNat = cellRead dflt m b.toNat :=
  cellRead_write_other _ _ _ fun e => h (BitVec.eq_of_toNat_eq e)

theorem BasicWrite.frame {e : Effects} {s t : State} (h : BasicWrite e s t) : Frame e s t := by
  have same := Frame.refl e s
  cases h with
  | store _ ha _ => exact storeReg_frame ha _ s
  | prog v _ ha =>
    exact { same with prog := fun b hb => cellRead_write_word _ _ _ fun h => hb (h ▸ ha) }
  | data v _ ha =>
    exact { same with data := fun b hb => cellRead_write_word _ _ _ fun h => hb (h ▸ ha) }
  | sp _ _ h => exact { same with sp := fun _ hsp => by simp [h] at hsp }
  | gie _ _ h => exact { same with sym := fun _ hg => by simp [h] at hg }
  | mode _ h _ => exact { same with mode := fun hm => by simp [h] at hm }
  | draw | goto | flags | freeFlags => exact { same with }

/-- The frame of one basic write is the frame of a run of them. -/
theorem Writes.frame {e : Effects} {s t : State} (h : Writes e s t) : Frame e s t where
  ram b hb := h.keeps (fun u => cellRead ramDefault u.ram b.toNat) fun _ _ w => w.frame.ram b hb
  prog a ha := h.keeps (progByte a) fun _ _ w => w.frame.prog a ha
  data a ha := h.keeps (dataByte a) fun _ _ w => w.frame.data a ha
  t0 h₁ h₂ := h.keeps (·.t0) fun _ _ w => w.frame.t0 h₁ h₂
  clkcon h₁ := h.keeps (·.clkcon) fun _ _ w => w.frame.clkcon h₁
  sp h₁ h₂ := h.keeps (·.sp) fun _ _ w => w.frame.sp h₁ h₂
  mdsreg h₁ := h.keeps (·.mdsreg) fun _ _ w => w.frame.mdsreg h₁
  bt h₁ := h.keeps (·.bt) fun _ _ w => w.frame.bt h₁
  div h₁ := h.keeps (·.div) fun _ _ w => w.frame.div h₁
  ftstcon h₁ := h.keeps (·.ftstcon) fun _ _ w => w.frame.ftstcon h₁
  sym h₁ h₂ := h.keeps (·.sym) fun _ _ w => w.frame.sym h₁ h₂
  p0 h₁ := h.keeps (·.ports.p0) fun _ _ w => w.frame.p0 h₁
  p1 h₁ := h.keeps (·.ports.p1) fun _ _ w => w.frame.p1 h₁
  p2 h₁ := h.keeps (·.ports.p2) fun _ _ w => w.frame.p2 h₁
  p0conh h₁ := h.keeps (·.ports.p0conh) fun _ _ w => w.frame.p0conh h₁
  p0conl h₁ := h.keeps (·.ports.p0conl) fun _ _ w => w.frame.p0conl h₁
  p0pnd h₁ := h.keeps (·.ports.p0pnd) fun _ _ w => w.frame.p0pnd h₁
  p1con h₁ := h.keeps (·.ports.p1con) fun _ _ w => w.frame.p1con h₁
  p2conh h₁ := h.keeps (·.ports.p2conh) fun _ _ w => w.frame.p2conh h₁
  p2conl h₁ := h.keeps (·.ports.p2conl) fun _ _ w => w.frame.p2conl h₁
  pwm h₁ h₂ := h.keeps (·.pwm) fun _ _ w => w.frame.pwm h₁ h₂
  stopcon h₁ := h.keeps (·.stopcon) fun _ _ w => w.frame.stopcon h₁
  adc h₁ := h.keeps (·.adc) fun _ _ w => w.frame.adc h₁
  mode h₁ := h.keeps (·.mode) fun _ _ w => w.frame.mode h₁
  clo := h.keeps (·.clo) fun _ _ w => w.frame.clo
  pins := h.keeps (·.pins) fun _ _ w => w.frame.pins
  cfg := h.keeps (·.cfg) fun _ _ w => w.frame.cfg
  inputs := h.keeps (·.inputs) fun _ _ w => w.frame.inputs

/-- Settles O47: the frame of the basic writes that the instruction is made of. -/
theorem execFrame : Obligations.ExecFrame := by
  intro i s t h
  have f := (exec_writes h).frame
  exact ⟨fun b hlt hb => by rw [peek_ram hlt, peek_ram hlt]; exact f.ram b hb,
    f.prog, f.data, f.t0, f.clkcon, f.sp, f.mdsreg, fun hb => ⟨f.bt hb, f.div hb⟩, f.ftstcon,
    f.sym, f.p0, f.p1, f.p2, f.p0conh, f.p0conl, f.p0pnd, f.p1con, f.p2conh, f.p2conl, f.pwm,
    f.stopcon, f.adc, f.mode, f.clo, f.pins, f.cfg, f.inputs⟩

/-! ### The flags -/

/-- The bits that a mix takes from its second byte. -/
theorem mixBits_and_of_disjoint {m n : Byte} (h : m &&& n = 0) (x y : Byte) :
    mixBits m x y &&& n = y &&& n := by
  ext i hi
  have hi' : (m[i] && n[i]) = false := by simp [← BitVec.getElem_and, h]
  simp only [mixBits, BitVec.getElem_and, BitVec.getElem_or, BitVec.getElem_not]
  revert hi'
  cases m[i] <;> cases n[i] <;> simp

/-- The bits that a mix takes from its first byte. -/
theorem mixBits_and_self (m x y : Byte) : mixBits m x y &&& m = x &&& m := by
  ext i hi
  simp only [mixBits, BitVec.getElem_and, BitVec.getElem_or, BitVec.getElem_not]
  cases m[i] <;> simp

theorem czsv_ofByte_toByte (f : Czsv) : Czsv.ofByte f.toByte = f := by
  obtain ⟨c, z, n, v⟩ := f
  revert c z n v
  decide

/-- The flags in a byte are its bits 7-4. -/
theorem czsv_ofByte_mixBits (x y : Byte) :
    Czsv.ofByte (mixBits 0xF0 x y) = Czsv.ofByte x := by
  simp [Czsv.ofByte, mixBits]

/-- The flags of a state are the ones just set. -/
@[simp] theorem czsv_setFlags (f : Czsv) (s : State) : (s.setFlags f).czsv = f :=
  (czsv_ofByte_mixBits _ _).trans (czsv_ofByte_toByte f)

/-- What a change leaves of FLAGS where it writes the flags `k` and does not store there (R17). -/
structure FlagsKept (k : FlagEffect) (s t : State) : Prop where
  unused : t.flags &&& 0x0F = s.flags &&& 0x0F
  all : k = .none → t.flags = s.flags
  c : k = .zsv → t.czsv.c = s.czsv.c
  zsv : k = .carry → t.czsv.z = s.czsv.z ∧ t.czsv.s = s.czsv.s ∧ t.czsv.v = s.czsv.v

theorem FlagsKept.of_flags_eq (k : FlagEffect) {s t : State} (h : t.flags = s.flags) :
    FlagsKept k s t := by
  have hc : t.czsv = s.czsv := congrArg Czsv.ofByte h
  exact ⟨by rw [h], fun _ => h, fun _ => by rw [hc], fun _ => by rw [hc]; exact ⟨rfl, rfl, rfl⟩⟩

theorem FlagsKept.trans {k : FlagEffect} {s t u : State} (h : FlagsKept k s t)
    (h' : FlagsKept k t u) : FlagsKept k s u where
  unused := h'.unused.trans h.unused
  all hk := (h'.all hk).trans (h.all hk)
  c hk := (h'.c hk).trans (h.c hk)
  zsv hk := by
    obtain ⟨hz, hs, hv⟩ := h.zsv hk
    obtain ⟨hz', hs', hv'⟩ := h'.zsv hk
    exact ⟨hz'.trans hz, hs'.trans hs, hv'.trans hv⟩

/-- Flags that the effect allows. -/
theorem flagsKept_setFlags {k : FlagEffect} {f : Czsv} {s : State} (h : k.allows s.czsv f) :
    FlagsKept k s (s.setFlags f) where
  unused := mixBits_and_of_disjoint (by decide) _ _
  all hk := by subst hk; exact h.elim
  c hk := by subst hk; rw [czsv_setFlags]; exact h
  zsv hk := by subst hk; rw [czsv_setFlags]; exact h

theorem BasicWrite.flagsKept {e : Effects} {s t : State} (h : BasicWrite e s t)
    (hf : flagsAddr ∉ e.file) : FlagsKept e.flags s t := by
  cases h with
  | flags h => exact flagsKept_setFlags h
  | freeFlags _ ha => exact absurd ha hf
  | store _ ha _ => exact .of_flags_eq _ (storeReg_flags (fun h => hf (h ▸ ha)) _ s)
  | draw | goto | prog | data | sp | gie | mode => exact .of_flags_eq _ rfl

theorem Writes.flagsKept {e : Effects} {s t : State} (h : Writes e s t)
    (hf : flagsAddr ∉ e.file) : FlagsKept e.flags s t := by
  induction h with
  | refl => exact .of_flags_eq _ rfl
  | tail _ w ih => exact ih.trans (w.flagsKept hf)

/-- Settles O48: no basic write of the instruction reaches a flag that its effects do not list. -/
theorem flagFrame : Obligations.FlagFrame := by
  intro i s t h hf
  have k := (exec_writes h).flagsKept hf
  exact ⟨k.unused, k.all, k.c, k.zsv⟩

end Sys2Proof.Machine
end

section
/-! The invariant of the machine: each basic write, each period, each event and each reset keeps it,
so every step does. -/

namespace Sys2Proof.Machine

/-- The invariant but for the wait for the oscillator, which time may end. -/
def State.LastingInv (s : State) : Prop :=
  s.memoriesWf ∧ s.cpuRegistersWf ∧ s.deviceRegistersWf ∧ s.portRegistersWf ∧ s.adcWf ∧ s.edgesWf

theorem inv_iff (s : State) : s.Inv ↔ s.LastingInv ∧ s.waitWf := by
  unfold State.LastingInv; tauto

theorem waitWf_of_mode {s : State} (h : s.mode ≠ .resetWait) : s.waitWf := fun e => absurd e h

/-! ### Bits that stay 0 -/

theorem and_and_eq_zero {keep mask : Byte} (h : keep &&& mask = 0) (v : Byte) :
    v &&& keep &&& mask = 0 := by
  rw [BitVec.and_assoc, h]; exact BitVec.and_zero

/-- Setting bits outside `mask` leaves the bits of `mask`. -/
theorem or_and_of_disjoint {x mask : Byte} (h : x &&& mask = 0) (v : Byte) :
    (v ||| x) &&& mask = v &&& mask := by
  rw [BitVec.and_or_distrib_right, h]; exact BitVec.or_zero

theorem writePending_and_eq_zero {keep pend mask : Byte} (hk : keep &&& mask = 0)
    (hp : pend &&& mask = 0) (old v : Byte) : writePending keep pend old v &&& mask = 0 := by
  rw [writePending, BitVec.and_or_distrib_right, and_and_eq_zero hk, and_and_eq_zero hp]; rfl

/-- A pending bit set leaves the other bits of its register. -/
theorem setPending_and {mask : Byte} {pend : Nat} (h : BitVec.twoPow 8 pend &&& mask = 0)
    (c : Params) (reg : Byte) (enable : Nat) :
    setPending c reg enable pend &&& mask = reg &&& mask := by
  unfold setPending
  split
  · exact or_and_of_disjoint h reg
  · rfl

theorem field2_and_FC (v : Byte) : field2 (v &&& 0xFC) 2 = field2 v 2 := by
  revert v; decide

/-! ### The conversion in progress -/

theorem adcDivider_range (code : BitVec 2) : 1 ≤ adcDivider code ∧ adcDivider code ≤ 16 := by
  revert code; decide

/-- What `State.adcWf` says of the converter alone. -/
abbrev Adc.countWf (c : Adc) : Prop :=
  (c.busy = true → 1 ≤ c.timer ∧ c.timer ≤ 800 ∧ c.con.getLsbD 3 = false) ∧
    (c.busy = false → c.timer = 0)

theorem writeAdcon_countWf {c : Adc} (h : c.countWf) (v : Byte) : (writeAdcon v c).countWf := by
  obtain ⟨hbusy, hidle⟩ := h
  unfold writeAdcon
  split
  · obtain ⟨h1, h16⟩ := adcDivider_range (field2 v 1)
    refine ⟨fun _ => ⟨?_, ?_, ?_⟩, fun hb => by cases hb⟩
    · show 1 ≤ 50 * _; omega
    · show 50 * _ ≤ 800; omega
    · simp
  · refine ⟨fun hb => ?_, hidle⟩
    obtain ⟨h1, h800, h3⟩ := hbusy hb
    exact ⟨h1, h800, by simpa using h3⟩

theorem writeAdcon_con_and (v : Byte) (c : Adc) :
    (writeAdcon v c).con &&& 0x01 = 0 := by
  unfold writeAdcon
  split
  · exact and_and_eq_zero (by decide) v
  · exact (or_and_of_disjoint (and_and_eq_zero (by decide) _) _).trans
      (and_and_eq_zero (by decide) v)

theorem writeAdcon_datal (v : Byte) (c : Adc) : (writeAdcon v c).datal = c.datal := by
  unfold writeAdcon; split <;> rfl

theorem adcFinish_con_and (r : BitVec 10) (c : Adc) :
    (adcFinish r c).con &&& 0x01 = c.con &&& 0x01 :=
  or_and_of_disjoint (by decide) c.con

theorem adcFinish_datal_and (r : BitVec 10) (c : Adc) : (adcFinish r c).datal &&& 0xFC = 0 := by
  show (r.extractLsb' 0 2).zeroExtend 8 &&& 0xFC = 0
  generalize r.extractLsb' 0 2 = low
  revert low; decide

/-! ### A basic write keeps the invariant -/

theorem storeReg_cpuRegistersWf {a v : Byte} {s : State} (hv : writeRefusal a v = none)
    (h : s.cpuRegistersWf) : (storeReg a v s).cpuRegistersWf := by
  obtain ⟨hflags, hsym, hclk, hftst⟩ := h
  unfold writeRefusal at hv
  cases hr : regAt a <;> simp only [hr] at hv <;> simp only [storeReg, hr]
  case flags => exact ⟨and_and_eq_zero (by decide) v, hsym, hclk, hftst⟩
  case clkcon => exact ⟨hflags, hsym, and_and_eq_zero (by decide) v, hftst⟩
  case ftstcon =>
    have h0 : v &&& 0x3F = 0 := by simpa using hv
    exact ⟨hflags, hsym, hclk, h0⟩
  case sym =>
    have h0 : field2 v 0 = 0 := by simpa using hv
    have hbits : ∀ v : Byte, field2 v 0 = 0 → v &&& 0x07 &&& 0xFB = 0 := by decide
    exact ⟨hflags, hbits v h0, hclk, hftst⟩
  all_goals exact ⟨hflags, hsym, hclk, hftst⟩

theorem storeReg_deviceRegistersWf {a v : Byte} {s : State} (hv : writeRefusal a v = none)
    (h : s.deviceRegistersWf) : (storeReg a v s).deviceRegistersWf := by
  obtain ⟨ht0, hbt, hbtclk, hpwm, hadc, hdatal⟩ := h
  unfold writeRefusal at hv
  cases hr : regAt a <;> simp only [hr] at hv <;> simp only [storeReg, hr]
  case t0con =>
    exact ⟨writePending_and_eq_zero (by decide) (by decide) _ v, hbt, hbtclk, hpwm, hadc, hdatal⟩
  case btcon =>
    have h3 : field2 v 2 ≠ 3 := fun he => by simp [he] at hv
    exact ⟨ht0, and_and_eq_zero (by decide) v, by rwa [← field2_and_FC] at h3, hpwm, hadc, hdatal⟩
  case pwmcon =>
    exact ⟨ht0, hbt, hbtclk, writePending_and_eq_zero (by decide) (by decide) _ v, hadc, hdatal⟩
  case adcon =>
    exact ⟨ht0, hbt, hbtclk, hpwm, writeAdcon_con_and v _, by rwa [writeAdcon_datal]⟩
  all_goals exact ⟨ht0, hbt, hbtclk, hpwm, hadc, hdatal⟩

theorem storeReg_portRegistersWf {s : State} (a v : Byte) (h : s.portRegistersWf) :
    (storeReg a v s).portRegistersWf := by
  obtain ⟨hp1, hp2, hpnd, hp1con, hp2conh⟩ := h
  cases hr : regAt a <;> simp only [storeReg, hr]
  case p1 => exact ⟨and_and_eq_zero (by decide) v, hp2, hpnd, hp1con, hp2conh⟩
  case p2 => exact ⟨hp1, and_and_eq_zero (by decide) v, hpnd, hp1con, hp2conh⟩
  case p0pnd =>
    exact ⟨hp1, hp2, writePending_and_eq_zero (by decide) (by decide) _ v, hp1con, hp2conh⟩
  case p1con => exact ⟨hp1, hp2, hpnd, and_and_eq_zero (by decide) v, hp2conh⟩
  case p2conh => exact ⟨hp1, hp2, hpnd, hp1con, and_and_eq_zero (by decide) v⟩
  all_goals exact ⟨hp1, hp2, hpnd, hp1con, hp2conh⟩

theorem storeReg_adcWf {s : State} (a v : Byte) (h : s.adcWf) : (storeReg a v s).adcWf := by
  cases hr : regAt a <;> simp only [storeReg, hr]
  case adcon => exact writeAdcon_countWf h v
  all_goals exact h

theorem storeReg_lastingInv {a v : Byte} {s : State} (hv : writeRefusal a v = none)
    (h : s.LastingInv) : (storeReg a v s).LastingInv := by
  obtain ⟨⟨hram, hprog, hdata⟩, hcpu, hdev, hport, hadc, hedge⟩ := h
  refine ⟨⟨storeReg_ram_wf a v s hram, ?_, ?_⟩, storeReg_cpuRegistersWf hv hcpu,
    storeReg_deviceRegistersWf hv hdev, storeReg_portRegistersWf a v hport,
    storeReg_adcWf a v hadc, ?_⟩
  · rwa [storeReg_prog]
  · rwa [storeReg_data]
  · rwa [State.edgesWf, storeReg_pins]

theorem setGie_sym_and (b : Bool) (s : State) : (s.setGie b).sym &&& 0xFB = s.sym &&& 0xFB := by
  cases b
  · show s.sym &&& ~~~(BitVec.twoPow 8 2) &&& 0xFB = _
    rw [BitVec.and_assoc]; rfl
  · exact or_and_of_disjoint (by decide) s.sym

theorem BasicWrite.lastingInv {e : Effects} {s t : State} (w : BasicWrite e s t)
    (h : s.LastingInv) : t.LastingInv := by
  cases w with
  | store _ _ hv => exact storeReg_lastingInv hv h
  | draw | goto | sp | mode => exact h
  | prog v _ _ =>
    obtain ⟨⟨hram, hprog, hdata⟩, hrest⟩ := h
    exact ⟨⟨hram, wf_cellWrite v hprog (BitVec.isLt _), hdata⟩, hrest⟩
  | data v _ _ =>
    obtain ⟨⟨hram, hprog, hdata⟩, hrest⟩ := h
    exact ⟨⟨hram, hprog, wf_cellWrite v hdata (BitVec.isLt _)⟩, hrest⟩
  | flags | freeFlags =>
    obtain ⟨hmem, ⟨hflags, hcpu⟩, hrest⟩ := h
    exact ⟨hmem, ⟨(mixBits_and_of_disjoint (by decide) _ _).trans hflags, hcpu⟩, hrest⟩
  | gie b _ _ =>
    obtain ⟨hmem, ⟨hflags, hsym, hcpu⟩, hrest⟩ := h
    exact ⟨hmem, ⟨hflags, (setGie_sym_and b s).trans hsym, hcpu⟩, hrest⟩

/-- No basic write starts the wait for the oscillator. -/
theorem BasicWrite.mode_ne_resetWait {e : Effects} {s t : State} (w : BasicWrite e s t)
    (h : s.mode ≠ .resetWait) : t.mode ≠ .resetWait := by
  cases w with
  | store => rwa [storeReg_mode]
  | mode _ _ hm => exact hm
  | draw | goto | prog | data | flags | freeFlags | sp | gie => exact h

/-! ### Time keeps the invariant -/

theorem t0Tick_con_and {mask : Byte} (h : 0x01 &&& mask = 0) (c : Params) (t : Timer0) :
    (t0Tick c t).con &&& mask = t.con &&& mask := by
  unfold t0Tick
  split
  · exact setPending_and h c t.con 1
  · rfl

theorem pwmTick_con_and {mask : Byte} (h : 0x01 &&& mask = 0) (c : Params) (p : Pwm) :
    (pwmTick c p).con &&& mask = p.con &&& mask := by
  unfold pwmTick
  dsimp only
  split
  · exact setPending_and h c p.con 1
  · rfl

theorem tick_stop {s : State} (h : s.mode = .stop) : tick s = s := ticks_stop 1 s h

/-- A period sets no bit of T0CON but the pending bit. -/
theorem tick_t0_con_and {mask : Byte} (h : 0x01 &&& mask = 0) (s : State) :
    (tick s).t0.con &&& mask = s.t0.con &&& mask := by
  by_cases hm : s.mode = .stop
  · rw [tick_stop hm]
  · rw [tick_t0 hm]
    split
    · exact t0Tick_con_and h s.cfg s.t0
    · rfl

/-- A period sets no bit of PWMCON but the pending bit. -/
theorem tick_pwm_con_and {mask : Byte} (h : 0x01 &&& mask = 0) (s : State) :
    (tick s).pwm.con &&& mask = s.pwm.con &&& mask := by
  by_cases hm : s.mode = .stop
  · rw [tick_stop hm]
  · rw [tick_pwm hm]
    split
    · exact pwmTick_con_and h s.cfg s.pwm
    · rfl

@[simp] theorem tick_bt_con (s : State) : (tick s).bt.con = s.bt.con := by
  by_cases hm : s.mode = .stop
  · rw [tick_stop hm]
  · rw [tick_bt hm]; split <;> rfl

/-- The last period of a conversion ends it. -/
theorem adcStep_adc_last {s : State} (hb : s.adc.busy = true) (ht : s.adc.timer ≤ 1) :
    (adcStep s).adc = adcFinish (analogReading s) s.adc := by
  simp [adcStep, hb, ht]

/-- Everything a period can do to the converter. -/
theorem tick_adc_cases (s : State) :
    (tick s).adc = s.adc ∨
    (s.adc.busy = true ∧ 1 < s.adc.timer ∧
      (tick s).adc = { s.adc with timer := s.adc.timer - 1 }) ∨
    ∃ r, (tick s).adc = adcFinish r s.adc := by
  by_cases hm : s.mode = .stop
  · exact .inl (by rw [tick_stop hm])
  cases hb : s.adc.busy
  · exact .inl (tick_adc_idle hm hb)
  by_cases ht : 1 < s.adc.timer
  · exact .inr (.inl ⟨rfl, ht, tick_adc_busy hm hb ht⟩)
  · refine .inr (.inr ⟨analogReading (pwmStep (t0Step (btStep { s with div := s.div + 1 }))), ?_⟩)
    rw [tick_running hm, cloStep_adc, adcStep_adc_last] <;> simp [hb, Nat.not_lt.mp ht]

theorem tick_adc_con_and (s : State) : (tick s).adc.con &&& 0x01 = s.adc.con &&& 0x01 := by
  rcases tick_adc_cases s with h | ⟨_, _, h⟩ | ⟨r, h⟩ <;> rw [h]
  exact adcFinish_con_and r s.adc

theorem tick_adc_datal_and {s : State} (hs : s.adc.datal &&& 0xFC = 0) :
    (tick s).adc.datal &&& 0xFC = 0 := by
  rcases tick_adc_cases s with h | ⟨_, _, h⟩ | ⟨r, h⟩ <;> rw [h]
  · exact hs
  · exact hs
  · exact adcFinish_datal_and r s.adc

theorem tick_adcWf {s : State} (hs : s.adcWf) : (tick s).adcWf := by
  obtain ⟨hbusy, hidle⟩ := hs
  unfold State.adcWf
  rcases tick_adc_cases s with h | ⟨hb, ht, h⟩ | ⟨r, h⟩ <;> rw [h]
  · exact ⟨hbusy, hidle⟩
  · obtain ⟨_, h800, h3⟩ := hbusy hb
    refine ⟨fun _ => ⟨?_, ?_, h3⟩, fun hf => by simp [hb] at hf⟩
    · show 1 ≤ s.adc.timer - 1; omega
    · show s.adc.timer - 1 ≤ 800; omega
  · exact ⟨fun hf => by simp [adcFinish] at hf, fun _ => rfl⟩

theorem tick_lastingInv {s : State} (h : s.LastingInv) : (tick s).LastingInv := by
  obtain ⟨hmem, hcpu, ⟨ht0, hbt, hbtclk, hpwm, hadc, hdatal⟩, hport, hcount, hedge⟩ := h
  refine ⟨by simpa [State.memoriesWf] using hmem, by simpa [State.cpuRegistersWf] using hcpu,
    ⟨?_, ?_, ?_, ?_, ?_, ?_⟩, by simpa [State.portRegistersWf] using hport, tick_adcWf hcount,
    by simpa [State.edgesWf] using hedge⟩
  · exact (tick_t0_con_and (by decide) s).trans ht0
  · rwa [tick_bt_con]
  · rwa [tick_bt_con]
  · exact (tick_pwm_con_and (by decide) s).trans hpwm
  · exact (tick_adc_con_and s).trans hadc
  · exact tick_adc_datal_and hdatal

/-- A property that a period keeps is kept by any number of them. -/
theorem ticks_invariant {P : State → Prop} (h : ∀ s, P s → P (tick s)) (n : Nat) {s : State}
    (hs : P s) : P (ticks n s) := by
  induction n generalizing s with
  | zero => exact hs
  | succ n ih => exact ih (h s hs)

theorem ticks_lastingInv (n : Nat) {s : State} (h : s.LastingInv) : (ticks n s).LastingInv :=
  ticks_invariant (P := State.LastingInv) (fun _ => tick_lastingInv) n h

/-! ### The environment keeps the invariant -/

theorem edgePending_and {mask : Byte} {n : Nat} (h : BitVec.twoPow 8 (2 * n) &&& mask = 0)
    (c : Params) (p : Ports) (prev now : Bool) :
    edgePending c p n prev now &&& mask = p.p0pnd &&& mask := by
  unfold edgePending
  split
  · exact setPending_and h c p.p0pnd _
  · rfl

theorem applyEvent_lastingInv (e : EnvEvent) {s : State} (h : s.LastingInv) :
    (applyEvent e s).LastingInv := by
  cases e with
  | pins p0 p1 p2 =>
    obtain ⟨hmem, hcpu, hdev, ⟨hp1, hp2, hpnd, hcon⟩, hadc, _⟩ := h
    have hpnd' : (changePins p0 p1 p2 s).ports.p0pnd &&& 0xF0 = 0 := by
      unfold changePins
      dsimp only
      rw [edgePending_and (by decide), edgePending_and (by decide), hpnd]
    exact ⟨hmem, hcpu, hdev, ⟨hp1, hp2, hpnd', hcon⟩, hadc, rfl, rfl⟩
  | ticks | analog | supply => exact h

theorem passTime_invariant {P : State → Prop} {pass : State → State} (h : ∀ s, P s → P (pass s))
    {s : State} (hs : P s) : P (passTime pass s) := by
  unfold passTime
  split
  · exact hs
  · exact h s hs

/-- A property that time and each event keep is kept by the events of a step. -/
theorem elapseBy_invariant {P : State → Prop} {pass : Nat → State → State}
    (h : ∀ n s, P s → P (pass n s)) (he : ∀ e s, P s → P (applyEvent e s)) (es : List EnvEvent)
    {s : State} (hs : P s) : P (elapseBy pass es s) := by
  induction es generalizing s with
  | nil => exact hs
  | cons e es ih =>
    cases e with
    | ticks n => exact ih (passTime_invariant (h n) hs)
    | pins | analog | supply => exact ih (he _ s hs)

theorem elapseExact_invariant {P : State → Prop} (h : ∀ n s, P s → P (ticks n s))
    (he : ∀ e s, P s → P (applyEvent e s)) (k : Nat) (es : List EnvEvent) {s : State} (hs : P s) :
    P (elapseExact k es s) := by
  induction es generalizing k s with
  | nil => exact passTime_invariant (h k) hs
  | cons e es ih =>
    cases e with
    | ticks n => exact ih _ (passTime_invariant (h _) hs)
    | pins | analog | supply => exact ih k (he _ s hs)

/-- Events over no period keep every view of the state that each event keeps. -/
theorem elapseExact_zero_keeps {α : Type} (view : State → α)
    (he : ∀ e s, view (applyEvent e s) = view s) (es : List EnvEvent) (s : State) :
    view (elapseExact 0 es s) = view s := by
  have h0 (s : State) : view (passTime (ticks 0) s) = view s := passTime_keeps view (fun _ => rfl) s
  induction es generalizing s with
  | nil => exact h0 s
  | cons e es ih =>
    cases e with
    | ticks n => simp only [elapseExact, Nat.zero_sub, Nat.min_zero, ih, h0]
    | pins | analog | supply => simp only [elapseExact, ih, he]

theorem elapseExact_lastingInv (k : Nat) (es : List EnvEvent) {s : State} (h : s.LastingInv) :
    (elapseExact k es s).LastingInv :=
  elapseExact_invariant (fun n _ => ticks_lastingInv n) (fun e _ => applyEvent_lastingInv e) k es h

theorem elapseFree_lastingInv (es : List EnvEvent) {s : State} (h : s.LastingInv) :
    (elapseFree es s).LastingInv :=
  elapseBy_invariant (fun n _ => ticks_lastingInv n) (fun e _ => applyEvent_lastingInv e) es h

theorem elapse_lastingInv (c : Byte) (n : Nat) (es : List EnvEvent) {s : State}
    (h : s.LastingInv) : (elapse c n es s).LastingInv := by
  unfold elapse
  split
  · exact elapseFree_lastingInv es h
  · exact elapseExact_lastingInv _ es h

theorem waitTicks_lastingInv (n : Nat) {s : State} (h : s.LastingInv) :
    (waitTicks n s).LastingInv := by
  obtain ⟨k, -, hk⟩ := waitTicks_eq n s
  rw [hk]; exact ticks_lastingInv k h

/-! ### Every step keeps the invariant -/

theorem doReset_lastingInv (src : ResetSource) {s : State} (h : s.LastingInv) :
    (doReset src s).LastingInv := by
  obtain ⟨⟨hram, hmem⟩, _, _, _, _, hedge⟩ := h
  have hram' : Memory.wf ramDefault ramSize (doReset src s).ram := by
    unfold doReset
    dsimp only
    split
    · exact wf_freeRam _ _ _ (Nat.le_refl _)
    · exact hram
  exact ⟨⟨hram', hmem⟩,
    ⟨and_and_eq_zero (by decide) _, BitVec.zero_and, BitVec.zero_and, rfl⟩,
    ⟨BitVec.zero_and, BitVec.zero_and, (by decide : field2 0x00 2 ≠ 3), BitVec.zero_and,
      BitVec.zero_and, and_and_eq_zero (by decide) _⟩,
    ⟨BitVec.zero_and, BitVec.zero_and, BitVec.zero_and, BitVec.zero_and, BitVec.zero_and⟩,
    ⟨fun hb => absurd hb Bool.false_ne_true, fun _ => rfl⟩, hedge⟩

theorem stepReset_inv (src : ResetSource) (es : List EnvEvent) {s : State} (h : s.LastingInv) :
    (stepReset src es s).Inv := by
  have hbt : (stepReset src es s).bt = (doReset src s).bt :=
    elapseExact_zero_keeps (·.bt) applyEvent_bt es _
  exact (inv_iff _).mpr
    ⟨elapseExact_lastingInv 0 es (doReset_lastingInv src h), fun _ => by rw [hbt]; rfl⟩

theorem stepWait_inv (es : List EnvEvent) {s : State} (h : s.LastingInv) :
    (stepWait es s).Inv := by
  have hl : (elapseBy waitTicks es s).LastingInv :=
    elapseBy_invariant (fun n _ => waitTicks_lastingInv n) (fun e _ => applyEvent_lastingInv e) es h
  unfold stepWait
  dsimp only
  split
  · exact (inv_iff _).mpr ⟨hl, waitWf_of_mode (by simp)⟩
  · rename_i hst
    exact (inv_iff _).mpr ⟨hl, fun _ => by simpa using hst⟩

theorem stepIdle_inv (es : List EnvEvent) {s : State} (h : s.LastingInv) (hm : s.mode = .idle) :
    (stepIdle es s).Inv := by
  unfold stepIdle
  split
  · exact (inv_iff _).mpr ⟨elapseExact_lastingInv 0 es h, waitWf_of_mode (by simp)⟩
  · exact (inv_iff _).mpr ⟨elapseFree_lastingInv es h, waitWf_of_mode (by simp [hm])⟩

theorem stepStop_inv (es : List EnvEvent) {s : State} (h : s.LastingInv) (hm : s.mode = .stop) :
    (stepStop es s).Inv := by
  have hl := elapseExact_lastingInv 0 es h
  unfold stepStop
  dsimp only
  split
  · exact (inv_iff _).mpr ⟨hl, fun _ => rfl⟩
  · exact (inv_iff _).mpr ⟨hl, waitWf_of_mode (by simp [hm])⟩

/-- What the program does in RUN mode, and the time it takes. -/
theorem writes_elapse_inv {e : Effects} {s t : State} (w : Writes e s t) (h : s.LastingInv)
    (hm : s.mode = .run) (c : Byte) (n : Nat) (es : List EnvEvent) : (elapse c n es t).Inv := by
  have hl : t.LastingInv := w.invariant (fun _ _ => BasicWrite.lastingInv) h
  have hmode : t.mode ≠ .resetWait :=
    w.invariant (P := fun u => u.mode ≠ .resetWait) (fun _ _ => BasicWrite.mode_ne_resetWait)
      (by simp [hm])
  exact (inv_iff _).mpr ⟨elapse_lastingInv c n es hl, waitWf_of_mode (by rwa [elapse_mode])⟩

theorem stepWith_inv {inp : StepInput} {s t : State} (h : s.LastingInv)
    (hs : stepWith inp s = .next t) : t.Inv := by
  rcases stepWith_eq_next hs with ⟨src, _, rfl⟩ | ⟨_, ⟨_, rfl⟩ | ⟨hm, _, _, hr⟩ | ⟨hm, _, hr⟩ |
    ⟨hm, rfl⟩ | ⟨hm, rfl⟩⟩
  · exact stepReset_inv src _ h
  · exact stepWait_inv _ h
  · obtain ⟨u, hu, rfl⟩ := runEntry_eq_next hr
    obtain ⟨_, w⟩ := writes_interruptEntry hu
    exact writes_elapse_inv w h hm _ _ _
  · obtain ⟨i, u, hu, rfl⟩ := runInstruction_eq_next hr
    exact writes_elapse_inv (exec_writes hu) h hm _ _ _
  · exact stepIdle_inv _ h hm
  · exact stepStop_inv _ h hm

/-- Settles O12: every step, by what it does in each power state, keeps the invariant. -/
theorem invKept : Obligations.InvKept := by
  intro s t h hs
  exact stepWith_inv (s := s.dropInput) ((inv_iff s).mp h).1 hs

/-- Settles O11: the invariant of the one state after reset. -/
theorem invAtReset : Obligations.InvAtReset :=
  ⟨reset_memoriesWf, by decide, by decide, by decide, by decide, fun _ => rfl, rfl, rfl⟩

end Sys2Proof.Machine
end

section
/-! The register file: what each address reads, what each write does and which are refused. -/

namespace Sys2Proof.Machine

/-! ### Reads -/

/-- A read where some bits are free: the free bits are those of the next free value. -/
theorem peek_and_free {a m : Byte} {s : State} (hm : freeMask a s &&& m = m) (h0 : m ≠ 0) :
    peek a s &&& m = Config.freeByte s.draws &&& m := by
  have hne : freeMask a s ≠ 0 := fun h => h0 (by rw [← hm, h]; exact BitVec.zero_and)
  rw [peek, if_neg hne, ← hm, ← BitVec.and_assoc, mixBits_and_self, BitVec.and_assoc]

/-- A read where some bits are free: the others are as stored. -/
theorem peek_and_stored {a m : Byte} {s : State} (hm : freeMask a s &&& m = 0) :
    peek a s &&& m = storedByte a s &&& m := by
  unfold peek
  split
  · rfl
  · exact mixBits_and_of_disjoint hm _ _

/-- A read of an address whose bits are all free. -/
theorem peek_free {a : Byte} {s : State} (hm : freeMask a s = 0xFF) :
    peek a s = Config.freeByte s.draws := by
  have h := peek_and_free (a := a) (s := s) (m := 0xFF) (by rw [hm]; rfl) (by decide)
  rwa [show (0xFF : Byte) = BitVec.allOnes 8 from rfl, BitVec.and_allOnes, BitVec.and_allOnes] at h

/-- The addresses at which no register stands (R21). -/
def reservedAddresses : List Byte :=
  [0xD3, 0xD6, 0xD7, 0xD8, 0xDA, 0xE3, 0xE4, 0xE5, 0xEC, 0xED, 0xEE, 0xEF, 0xF0, 0xF1, 0xF5, 0xF6,
   0xFA, 0xFB, 0xFC, 0xFD, 0xFE, 0xFF]

theorem mem_reservedAddresses (a : Byte) : a ∈ reservedAddresses ↔ regAt a = .reserved := by
  revert a; decide

theorem freeMask_reserved {a : Byte} (h : regAt a = .reserved) (s : State) :
    freeMask a s = 0xFF := by
  simp [freeMask, h]

theorem byteOf_getLsbD (f : Nat → Bool) {i : Nat} (hi : i < 8) :
    (byteOf f).getLsbD i = f i := by
  unfold byteOf
  interval_cases i <;> simp only [BitVec.getLsbD_append] <;> simp

/-- A byte given bit by bit has the bits of `m` that its bits are. -/
theorem byteOf_and {f : Nat → Bool} {m : Byte}
    (h : ∀ i < 8, m.getLsbD i = true → f i = true) : byteOf f &&& m = m := by
  refine BitVec.eq_of_getLsbD_eq fun i hi => ?_
  rw [BitVec.getLsbD_and, byteOf_getLsbD f hi]
  cases hm : m.getLsbD i
  · exact Bool.and_false _
  · rw [h i hi hm]; rfl

/-- Bits 7-3 of P1 do not exist. -/
theorem p1FreeMask_and (s : State) : p1FreeMask s &&& 0xF8 = 0xF8 := by
  refine byteOf_and fun i _ hm => ?_
  have h3 : ¬i < 3 := fun h => by interval_cases i <;> simp at hm
  simp [h3]

/-- Bit 7 of P2 does not exist. -/
theorem p2FreeMask_and (s : State) : p2FreeMask s &&& 0x80 = 0x80 := by
  refine byteOf_and fun i _ hm => ?_
  have h7 : ¬i < 7 := fun h => by interval_cases i <;> simp at hm
  simp [h7]

/-- A read of a register whose bits `f` do not exist: its bits `m` are as stored, those of `f` are
free. -/
theorem peek_bits {s : State} (a f m : Byte) (hf : freeMask a s = f) (hm : f &&& m = 0)
    (h0 : f ≠ 0) :
    peek a s &&& m = storedByte a s &&& m ∧ peek a s &&& f = Config.freeByte s.draws &&& f :=
  ⟨peek_and_stored (by rw [hf, hm]), peek_and_free (by rw [hf]; exact BitVec.and_self) h0⟩

/-- Settles O14, address by address: which bits are free and what is stored in the others. -/
theorem registerReads : Obligations.RegisterReads := by
  refine ⟨fun a s => ⟨rfl, readDraws a s, ?_, readReg_snd a s⟩, fun s => ?_⟩
  · unfold readDraws; split <;> omega
  have plain (a : Byte) (h : freeMask a s = 0) : peek a s = storedByte a s := peek_eq_storedByte h
  obtain ⟨t0con, t0con'⟩ := peek_bits 0xD2 0x34 0xCB (s := s) rfl (by decide) (by decide)
  obtain ⟨clkcon, clkcon'⟩ := peek_bits 0xD4 0x67 0x98 (s := s) rfl (by decide) (by decide)
  obtain ⟨flags, flags'⟩ := peek_bits 0xD5 0x0F 0xF0 (s := s) rfl (by decide) (by decide)
  obtain ⟨sym, sym'⟩ := peek_bits 0xDF 0xF8 0x07 (s := s) rfl (by decide) (by decide)
  obtain ⟨p0pnd, p0pnd'⟩ := peek_bits 0xE8 0xF0 0x0F (s := s) rfl (by decide) (by decide)
  obtain ⟨p1con, p1con'⟩ := peek_bits 0xE9 0x30 0xCF (s := s) rfl (by decide) (by decide)
  obtain ⟨p2conh, p2conh'⟩ := peek_bits 0xEA 0x80 0x7F (s := s) rfl (by decide) (by decide)
  obtain ⟨pwmcon, pwmcon'⟩ := peek_bits 0xF3 0x20 0xDF (s := s) rfl (by decide) (by decide)
  obtain ⟨adcon, adcon'⟩ := peek_bits 0xF7 0x01 0xFE (s := s) rfl (by decide) (by decide)
  refine ⟨fun a ha => peek_ram ha s, plain 0xD0 rfl, plain 0xD1 rfl, t0con, t0con', clkcon,
    clkcon', flags, flags', plain 0xD9 rfl, plain 0xDB rfl, plain 0xDC rfl, plain 0xDD rfl,
    peek_free rfl, sym, sym', peek_and_free (p1FreeMask_and s) (by decide),
    peek_and_free (p2FreeMask_and s) (by decide), plain 0xE6 rfl, plain 0xE7 rfl, p0pnd, p0pnd',
    p1con, p1con', p2conh, p2conh', plain 0xEB rfl, plain 0xF2 rfl, pwmcon, pwmcon',
    plain 0xF4 rfl, adcon, adcon', plain 0xF8 rfl, plain 0xF9 rfl,
    fun a ha => peek_free (freeMask_reserved ((mem_reservedAddresses a).mp ha) s)⟩

/-! ### Plain storage -/

/-- The addresses of plain storage (R20, R24, R18, R27, R41). -/
abbrev PlainByte (a : Byte) : Prop := a.toNat < 0xD0 ∨ a = 0xD1 ∨ a = 0xD9 ∨ a = 0xDB ∨ a = 0xF2

theorem writeRefusal_plain {a : Byte} (ha : PlainByte a) (v : Byte) : writeRefusal a v = none := by
  rcases ha with ha | rfl | rfl | rfl | rfl
  · exact writeRefusal_ram ha v
  all_goals rfl

theorem freeMask_plain {a : Byte} (ha : PlainByte a) (s : State) : freeMask a s = 0 := by
  rcases ha with ha | rfl | rfl | rfl | rfl
  · exact freeMask_ram ha s
  all_goals rfl

theorem storedByte_ram {a : Byte} (ha : a.toNat < 0xD0) (s : State) :
    storedByte a s = cellRead ramDefault s.ram a.toNat := by
  simp [storedByte, regAt_ram ha]

/-- A store below D0H is seen at that address only. -/
theorem storedByte_storeReg_ram {a b : Byte} (ha : a.toNat < 0xD0) (hb : b ≠ a) (v : Byte)
    (s : State) : storedByte b (storeReg a v s) = storedByte b s := by
  rw [storeReg_ram ha]
  cases hr : regAt b <;> simp only [storedByte, hr]
  case ram => exact cellRead_write_other _ _ _ fun h => hb (BitVec.eq_of_toNat_eq h)
  all_goals rfl

/-- A store to plain storage is seen at its address only. -/
theorem storedByte_storeReg_plain {a b : Byte} (ha : PlainByte a) (hb : b ≠ a) (v : Byte)
    (s : State) : storedByte b (storeReg a v s) = storedByte b s := by
  rcases ha with ha | rfl | rfl | rfl | rfl
  · exact storedByte_storeReg_ram ha hb v s
  all_goals
    cases hr : regAt b <;> simp only [storedByte, hr] <;>
      first | rfl | exact absurd (eq_addr_of_regAt hr (by decide)) hb

/-- A store to plain storage frees or fixes no bit of the file. -/
theorem freeMask_storeReg_plain {a : Byte} (ha : PlainByte a) (b v : Byte) (s : State) :
    freeMask b (storeReg a v s) = freeMask b s := by
  rcases ha with ha | rfl | rfl | rfl | rfl
  · rw [storeReg_ram ha]; rfl
  all_goals rfl

theorem peek_storeReg_plain {a b : Byte} (ha : PlainByte a) (hb : b ≠ a) (v : Byte) (s : State) :
    peek b (storeReg a v s) = peek b s := by
  simp only [peek, freeMask_storeReg_plain ha, storedByte_storeReg_plain ha hb, storeReg_draws]

/-- Plain storage reads back what was written. -/
theorem peek_storeReg_same {a : Byte} (ha : PlainByte a) (v : Byte) {s : State}
    (h : Memory.wf ramDefault ramSize s.ram) : peek a (storeReg a v s) = v := by
  rw [peek_eq_storedByte (freeMask_plain ha _)]
  rcases ha with ha | rfl | rfl | rfl | rfl
  · rw [storedByte_ram ha]; exact cellRead_storeReg_same ha v s h
  all_goals rfl

/-- Settles O15: what a store to plain storage leaves, in the file and in the rest of the state. -/
theorem plainRegistersReadBack : Obligations.PlainRegistersReadBack := by
  intro s a v h ha
  refine ⟨_, writeReg_eq_next.mpr ⟨writeRefusal_plain ha v, rfl⟩, peek_storeReg_same ha v h,
    fun b hb => peek_storeReg_plain ha hb v s, ?_⟩
  rcases ha with ha | rfl | rfl | rfl | rfl
  · rw [storeReg_ram ha]; rfl
  all_goals rfl

/-! ### Control registers -/

theorem writeReg_accepted {a v : Byte} {s : State} (h : writeRefusal a v = none) :
    writeReg a v s = .next (storeReg a v s) :=
  writeReg_eq_next.mpr ⟨h, rfl⟩

/-- The bits of a pending register that are stored as written. -/
theorem writePending_and {keep pend : Byte} (h : pend &&& keep = 0) (old v : Byte) :
    writePending keep pend old v &&& keep = v &&& keep := by
  rw [writePending, BitVec.and_or_distrib_right, and_and_eq_zero h, BitVec.and_assoc,
    BitVec.and_self]
  exact BitVec.or_zero

/-- A pending bit becomes `old & written`. -/
theorem writePending_getLsbD {keep pend : Byte} {i : Nat} (hk : keep.getLsbD i = false)
    (hp : pend.getLsbD i = true) (old v : Byte) :
    (writePending keep pend old v).getLsbD i = (old.getLsbD i && v.getLsbD i) := by
  simp only [writePending, BitVec.getLsbD_or, BitVec.getLsbD_and, hk, hp, Bool.and_false,
    Bool.and_true, Bool.false_or]

/-- A write to ADCON that starts no conversion. -/
theorem writeAdcon_idle {v : Byte} (h : v.getLsbD 0 = false) (c : Adc) :
    writeAdcon v c = { c with con := (v &&& 0xF6) ||| (c.con &&& 0x08) } :=
  if_neg (by rw [h]; decide)

/-- A write to ADCON that starts a conversion. -/
theorem writeAdcon_start {v : Byte} (h : v.getLsbD 0 = true) (c : Adc) :
    writeAdcon v c = { c with
      con := v &&& 0xF6, busy := true, sar := 0x200, timer := 50 * adcDivider (field2 v 1) } :=
  if_pos h

theorem adcDivider_eq (code : BitVec 2) :
    adcDivider code =
      if code = 0 then 16 else if code = 1 then 8 else if code = 2 then 4 else 1 := by
  revert code; decide

theorem writeRefusal_btcon {v : Byte} (h : v.extractLsb' 2 2 ≠ 3) :
    writeRefusal 0xDC v = none := if_neg h

theorem writeRefusal_sym {v : Byte} (h : v.extractLsb' 0 2 = 0) : writeRefusal 0xDF v = none :=
  if_pos h

theorem writeRefusal_ftstcon {v : Byte} (h : v &&& 0x3F = 0) : writeRefusal 0xDE v = none :=
  if_pos h

/-- Settles O16, register by register: the store of R21's map at its address. -/
theorem controlRegisterWrites : Obligations.ControlRegisterWrites := by
  intro s v
  have ftstcon (h : v &&& 0x3F = 0) : writeReg 0xDE v s = .next { s with ftstcon := 0 } := by
    rw [writeReg_accepted (writeRefusal_ftstcon h), storeReg_at_ftstcon, h]
  have adconIdle (h : v.getLsbD 0 = false) :
      ∃ c, writeReg 0xF7 v s = .next { s with adc := { s.adc with con := c } } ∧
        c &&& 0xF6 = v &&& 0xF6 ∧ c.getLsbD 3 = s.adc.con.getLsbD 3 := by
    refine ⟨(v &&& 0xF6) ||| (s.adc.con &&& 0x08), ?_, ?_, by simp⟩
    · rw [writeReg_accepted rfl, storeReg_at_adcon, writeAdcon_idle h]
    · rw [or_and_of_disjoint (and_and_eq_zero (by decide) _), BitVec.and_assoc, BitVec.and_self]
  refine ⟨⟨_, writeReg_accepted rfl, writePending_and (by decide) _ v,
      writePending_getLsbD (by decide) (by decide) _ v⟩,
    fun h => writeReg_accepted (writeRefusal_btcon h),
    ⟨_, writeReg_accepted rfl, writePending_and (by decide) _ v,
      writePending_getLsbD (by decide) (by decide) _ v⟩,
    ⟨_, writeReg_accepted rfl, writePending_and (by decide) _ v,
      writePending_getLsbD (by decide) (by decide) _ v,
      writePending_getLsbD (by decide) (by decide) _ v⟩, adconIdle,
    fun h => ⟨adcDivider (v.extractLsb' 1 2), ?_, adcDivider_eq _⟩,
    fun h => writeReg_accepted (writeRefusal_sym h), ftstcon, fun h h0 => ?_,
    writeReg_accepted rfl, writeReg_accepted rfl, writeReg_accepted rfl,
    writeReg_accepted rfl, writeReg_accepted rfl, writeReg_accepted rfl, writeReg_accepted rfl,
    writeReg_accepted rfl, writeReg_accepted rfl, writeReg_accepted rfl, writeReg_accepted rfl,
    writeReg_accepted rfl, writeReg_accepted rfl, writeReg_accepted rfl, writeReg_accepted rfl⟩
  · rw [writeReg_accepted rfl, storeReg_at_adcon, writeAdcon_start h]; rfl
  · rw [ftstcon h, ← h0]

/-! ### Refused writes -/

/-- Every reason to refuse a write, and the address it is given for. -/
theorem writeRefusal_eq_some {a v : Byte} {r : Refusal} (h : writeRefusal a v = some r) :
    regAt a = .reserved ∨ (a = 0xD0 ∨ a = 0xDD ∨ a = 0xF8 ∨ a = 0xF9) ∨
    (a = 0xDE ∧ v &&& 0x3F ≠ 0) ∨ (a = 0xDC ∧ v.extractLsb' 2 2 = 3) ∨
    (a = 0xDF ∧ v.extractLsb' 0 2 ≠ 0) := by
  unfold writeRefusal at h
  cases hr : regAt a <;> simp only [hr, reduceCtorEq] at h
  case reserved => exact .inl rfl
  case t0cnt | btcnt | addatah | addatal =>
    exact .inr (.inl (by rw [eq_addr_of_regAt hr (by decide)]; decide))
  case ftstcon =>
    have ha := eq_addr_of_regAt hr (by decide)
    split at h
    · cases h
    · exact .inr (.inr (.inl ⟨ha, ‹_›⟩))
  case btcon =>
    have ha := eq_addr_of_regAt hr (by decide)
    split at h
    · exact .inr (.inr (.inr (.inl ⟨ha, ‹_›⟩)))
    · cases h
  case sym =>
    have ha := eq_addr_of_regAt hr (by decide)
    split at h
    · cases h
    · exact .inr (.inr (.inr (.inr ⟨ha, ‹_›⟩)))

/-- Settles O17: each refusal at its address, and no other. -/
theorem refusedRegisterWrites : Obligations.RefusedRegisterWrites := by
  intro s a v
  refine ⟨fun ha => ?_, ?_, ?_, ?_, ?_, fun r hr => ?_, fun f => writeReg_ne_fault⟩
  · have hr : regAt a = .reserved := (mem_reservedAddresses a).mp ha
    exact writeReg_eq_refused.mpr (by simp [writeRefusal, hr])
  · rintro (rfl | rfl | rfl | rfl) <;> rfl
  · rintro ⟨rfl, h⟩
    exact writeReg_eq_refused.mpr (if_neg h)
  · rintro ⟨rfl, h⟩
    exact writeReg_eq_refused.mpr (if_pos h)
  · rintro ⟨rfl, h⟩
    exact writeReg_eq_refused.mpr (if_neg h)
  · rcases writeRefusal_eq_some (writeReg_eq_refused.mp hr) with h | h | h
    · exact .inl (List.mem_append_left [0xD0, 0xDD, 0xF8, 0xF9] ((mem_reservedAddresses a).mpr h))
    · exact .inl (List.mem_append_right reservedAddresses (by simpa using h))
    · exact .inr h

end Sys2Proof.Machine
end

section
/-! Working registers and register pairs, and where a store of an instruction is refused. -/

namespace Sys2Proof.Machine

/-! ### Working registers and pairs -/

theorem wr_eq_ofNat (n : WReg) : wr n = BitVec.ofNat 8 (0xC0 + n.toNat) := by
  revert n; decide

/-- RRp is Rp and the register after it (R15). -/
theorem wr_pairReg_eq_ofNat (p : Pair) :
    wr (pairReg p) = BitVec.ofNat 8 (0xC0 + 2 * p.toNat) := by
  revert p; decide

theorem wr_pairReg_succ_ne (p : Pair) : wr (pairReg p) + 1 ≠ wr (pairReg p) := by
  revert p; decide

/-- The high byte first: a word in whole bytes. -/
theorem wordOf_eq (hi lo : Byte) :
    wordOf hi lo = (hi.zeroExtend 16 <<< 8) ||| lo.zeroExtend 16 := by
  refine BitVec.eq_of_getLsbD_eq fun i hi' => ?_
  simp only [wordOf, BitVec.getLsbD_append]
  by_cases h : i < 8
  · simp [h, hi']
  · simp [h, hi', BitVec.getLsbD_of_ge lo i (Nat.not_lt.mp h)]

/-- The high byte of a pair written is in its even register. -/
theorem peek_setPair_hi (p : Pair) (w : Word) {s : State}
    (h : Memory.wf ramDefault ramSize s.ram) :
    peek (wr (pairReg p)) (setPair p w s) = hiByte w := by
  rw [setPair, peek_storeReg_plain (.inl (pairReg_odd_lt p)) (wr_pairReg_succ_ne p).symm]
  exact peek_storeReg_same (.inl (wr_lt _)) _ h

/-- The low byte of a pair written is in its odd register. -/
theorem peek_setPair_lo (p : Pair) (w : Word) {s : State}
    (h : Memory.wf ramDefault ramSize s.ram) :
    peek (wr (pairReg p) + 1) (setPair p w s) = loByte w :=
  peek_storeReg_same (.inl (pairReg_odd_lt p)) _ (storeReg_ram_wf _ _ s h)

/-- A move of an immediate into a working register, in the form of either length. -/
theorem move_imm_wr (len : Nat) {d : Operand} {n : WReg} (v : Byte) {s : State}
    (hd : d.address s = (wr n, s)) :
    move len d (.imm v) s = .next ((storeReg (wr n) v s).advance len) := by
  rw [move_eq_next, hd]
  exact ⟨writeRefusal_wr n v, rfl⟩

/-- Settles O18, from the rules of the register file at the addresses of the working registers. -/
theorem workingRegistersAndPairs : Obligations.WorkingRegistersAndPairs := by
  refine fun s => ⟨fun p => ⟨wr_pairReg_eq_ofNat p, wordOf_eq _ _⟩, fun a => wordOf_eq _ _,
    fun h p w => ?_, fun h n v => ?_⟩
  · refine ⟨?_, peek_setPair_hi p w h, peek_setPair_lo p w h⟩
    rw [pairValue, peek_setPair_hi p w h, peek_setPair_lo p w h, wordOf_hi_lo]
  · refine ⟨wr_toNat n, storeReg (wr n) v s, move_imm_wr 2 v rfl, ?_,
      peek_storeReg_same (.inl (wr_lt n)) v h⟩
    rw [← wr_eq_ofNat]
    exact move_imm_wr 3 v rfl

/-! ### Refused stores -/

/-- A result whose destination a write does not reach, or is FLAGS (R160 (d)). -/
theorem twoStore_stops {i : Instr} {op : Czsv → Byte → Byte → Alu} {len : Nat} {d : Operand}
    {o : Source} {s : State} (hi : exec i s = twoStore op len d o s) :
    StopsOrFreesFlags i len s (fetchTwo d o s)
      (op s.czsv (fetchTwo d o s).dv (fetchTwo d o s).sv).1 := by
  rw [StopsOrFreesFlags, hi]
  refine ⟨fun r hr => andThen_writeReg_refused hr _, fun ha => ?_⟩
  rw [twoStore_eq_next, ha]
  exact ⟨rfl, rfl⟩

theorem oneStore_stops {i : Instr} {op : Czsv → Byte → Alu} {len : Nat} {d : Operand}
    {s : State} (hi : exec i s = oneStore op len d s) :
    StopsOrFreesFlags i len s (fetchOne d s) (op s.czsv (fetchOne d s).dv).1 := by
  rw [StopsOrFreesFlags, hi]
  refine ⟨fun r hr => andThen_writeReg_refused hr _, fun (ha : (d.address s).1 = 0xD5) => ?_⟩
  refine oneStore_eq_next.mpr ?_
  rw [ha]
  exact ⟨rfl, by simp [fetchOne, ha]; rfl⟩

/-- The two-operand instructions that store: each of its forms is `twoStore` of its operation. -/
theorem twoOperandStops {rr rIr : WReg → WReg → Instr} {RR RIR RIM : Byte → Byte → Instr}
    {op : Czsv → Byte → Byte → Alu} {s : State}
    (hrr : ∀ d r, exec (rr d r) s = twoStore op 2 (.r d) (.place (.r r)) s := by intros; rfl)
    (hrIr : ∀ d r, exec (rIr d r) s = twoStore op 2 (.r d) (.place (.ir r)) s := by intros; rfl)
    (hRR : ∀ d r, exec (RR d r) s = twoStore op 3 (.reg d) (.place (.reg r)) s := by intros; rfl)
    (hRIR : ∀ d r, exec (RIR d r) s = twoStore op 3 (.reg d) (.place (.ireg r)) s := by intros; rfl)
    (hRIM : ∀ d v, exec (RIM d v) s = twoStore op 3 (.reg d) (.imm v) s := by intros; rfl) :
    TwoOperandStops rr rIr RR RIR RIM op s :=
  ⟨fun d r => twoStore_stops (hrr d r), fun d r => twoStore_stops (hrIr d r),
    fun d r => twoStore_stops (hRR d r), fun d r => twoStore_stops (hRIR d r),
    fun d v => twoStore_stops (hRIM d v)⟩

/-- The one-operand instructions that store: each of its forms is `oneStore` of its operation. -/
theorem oneOperandStops {R IR : Byte → Instr} {op : Czsv → Byte → Alu} {s : State}
    (hR : ∀ a, exec (R a) s = oneStore op 2 (.reg a) s := by intros; rfl)
    (hIR : ∀ a, exec (IR a) s = oneStore op 2 (.ireg a) s := by intros; rfl) :
    OneOperandStops R IR op s :=
  ⟨fun a => oneStore_stops (hR a), fun a => oneStore_stops (hIR a)⟩

/-- Settles O29: every form is `twoStore` or `oneStore` of its operation. -/
theorem resultStoreStops : Obligations.ResultStoreStops := fun _ =>
  ⟨twoOperandStops, twoOperandStops, twoOperandStops, twoOperandStops, twoOperandStops,
    twoOperandStops, twoOperandStops, oneOperandStops, oneOperandStops, oneOperandStops,
    oneOperandStops, oneOperandStops, oneOperandStops, oneOperandStops, oneOperandStops⟩

/-- A move whose destination a write does not reach. -/
theorem move_refused {len : Nat} {d : Operand} {o : Source} {s : State} {x : Refusal}
    (h : writeRefusal (d.address s).1 (o.value (d.address s).2).1 = some x) :
    move len d o s = .refused x :=
  andThen_writeReg_refused h _

/-- A POP to an address that a write does not reach. -/
theorem popOperand_refused {len : Nat} {d : Operand} {s : State} {x : Refusal}
    (h : writeRefusal (d.address s).1 (peek s.sp (d.address s).2) = some x) :
    popOperand len d s = .refused x := by
  have hsp : (d.address s).2.sp = s.sp := by obtain ⟨k, hk⟩ := address_snd d s; rw [hk]; rfl
  exact andThen_writeReg_refused (by rw [hsp]; exact h) _

/-- A PUSH below an SP that a write does not reach. -/
theorem pushOperand_refused {len : Nat} {o : Operand} {s : State} {x : Refusal}
    (h : writeRefusal (s.sp - 1) (peek (o.address s).1 ((o.address s).2.setSp (s.sp - 1))) =
      some x) : pushOperand len o s = .refused x := by
  have hsp : (o.address s).2.sp = s.sp := by obtain ⟨k, hk⟩ := address_snd o s; rw [hk]; rfl
  refine andThen_writeReg_refused ?_ _
  rw [readReg_snd, readReg_fst, hsp]
  exact h

/-- Settles O34: every form is a move, a POP or a PUSH of its operands. -/
theorem moveStops : Obligations.MoveStops := by
  refine fun s x => ⟨fun _ h => move_refused h, fun _ h => move_refused h,
    fun _ _ h => move_refused h, fun d r h => move_refused ?_, fun _ _ h => move_refused h,
    fun _ _ h => move_refused h, fun _ _ h => move_refused h, fun _ _ h => move_refused h,
    fun _ _ h => move_refused h, fun b i r h => move_refused ?_, fun _ h => popOperand_refused h,
    fun _ h => popOperand_refused h, fun _ h => pushOperand_refused h,
    fun _ h => pushOperand_refused h⟩
  · rw [address_ir]; exact h
  · rw [address_x]; exact h

end Sys2Proof.Machine
end

section
/-! The taps of the divider in closed form, and the state that the first instruction after a reset
finds (R322, R326). -/

namespace Sys2Proof.Machine

/-! ### A tap of the divider over many periods -/

/-- A divider that runs on for `n + 1` periods fires the tap /d at the multiples of `d` (R275). -/
theorem tapFires_ofNat {d : Nat} (hd : d ∣ 4096) (n : Nat) :
    tapFires (BitVec.ofNat 12 n) d = true ↔ d ∣ n := by
  rw [tapFires, beq_iff_eq, BitVec.toNat_ofNat, ← Nat.dvd_iff_mod_eq_zero,
    Nat.dvd_mod_iff (show d ∣ 2 ^ 12 from hd)]

theorem ticks_div {s : State} (h : s.mode ≠ .stop) (n : Nat) :
    (ticks n s).div = s.div + BitVec.ofNat 12 n := by
  induction n with
  | zero => simp [ticks]
  | succ n ih =>
    rw [ticks_succ', tick_div (by rwa [ticks_mode]), ih, BitVec.add_assoc, BitVec.ofNat_add]
    rfl

/-- A device that takes the step `f` whenever the tap /d fires has taken it `n / d` times after `n`
periods from a cleared divider. -/
theorem ticks_device {α : Type} {view : State → α} {f : α → α} {d : Nat} (hd : d ∣ 4096) {s : State}
    (hm : s.mode ≠ .stop) (h0 : s.div = 0)
    (hstep : ∀ n, view (tick (ticks n s)) =
      if tapFires ((ticks n s).div + 1) d then f (view (ticks n s)) else view (ticks n s))
    (n : Nat) : view (ticks n s) = f^[n / d] (view s) := by
  induction n with
  | zero => simp [ticks]
  | succ n ih =>
    have hdiv : (ticks n s).div + 1 = BitVec.ofNat 12 (n + 1) := by
      rw [ticks_div hm, h0, BitVec.ofNat_add]; simp
    rw [ticks_succ', hstep, hdiv, Nat.succ_div, ih]
    simp only [tapFires_ofNat hd]
    split
    · rw [Function.iterate_succ_apply']
    · rfl

@[simp] theorem ticks_bt_con (n : Nat) (s : State) : (ticks n s).bt.con = s.bt.con := by
  induction n with
  | zero => rfl
  | succ n ih => rw [ticks_succ', tick_bt_con, ih]

/-- Periods set no bit of T0CON but the pending bit. -/
theorem ticks_t0_con_and {mask : Byte} (h : 0x01 &&& mask = 0) (n : Nat) (s : State) :
    (ticks n s).t0.con &&& mask = s.t0.con &&& mask := by
  induction n with
  | zero => rfl
  | succ n ih => rw [ticks_succ', tick_t0_con_and h, ih]

/-- Periods set no bit of PWMCON but the pending bit. -/
theorem ticks_pwm_con_and {mask : Byte} (h : 0x01 &&& mask = 0) (n : Nat) (s : State) :
    (ticks n s).pwm.con &&& mask = s.pwm.con &&& mask := by
  induction n with
  | zero => rfl
  | succ n ih => rw [ticks_succ', tick_pwm_con_and h, ih]

theorem btDivider_dvd (con : Byte) : btDivider con ∣ 4096 := by
  unfold btDivider; split <;> decide

theorem t0Divider_dvd (con : Byte) : t0Divider con ∣ 4096 := by
  unfold t0Divider; split <;> decide

theorem t0Divider_and (con : Byte) : t0Divider (con &&& 0xC0) = t0Divider con := by
  have h : field2 (con &&& 0xC0) 6 = field2 con 6 := by revert con; decide
  rw [t0Divider, h]; rfl

/-- The Basic Timer after `n` periods from a cleared divider (R276). -/
theorem ticks_bt {s : State} (hm : s.mode ≠ .stop) (h0 : s.div = 0) (n : Nat) :
    (ticks n s).bt = btTick^[n / btDivider s.bt.con] s.bt :=
  ticks_device (view := (·.bt)) (btDivider_dvd _) hm h0
    (fun n => by rw [tick_bt (by rwa [ticks_mode]), ticks_bt_con]) n

/-- Timer 0 after `n` periods from a cleared divider (R283). -/
theorem ticks_t0 {s : State} (hm : s.mode ≠ .stop) (h0 : s.div = 0) (n : Nat) :
    (ticks n s).t0 = (t0Tick s.cfg)^[n / t0Divider s.t0.con] s.t0 := by
  refine ticks_device (view := (·.t0)) (t0Divider_dvd _) hm h0 (fun n => ?_) n
  rw [tick_t0 (by rwa [ticks_mode]), ticks_cfg, ← t0Divider_and (ticks n s).t0.con,
    ticks_t0_con_and (by decide), t0Divider_and]

/-! ### The timers tick by tick -/

@[simp] theorem btTick_iterate_con (n : Nat) (b : BasicTimer) : (btTick^[n] b).con = b.con := by
  induction n with
  | zero => rfl
  | succ n ih => rw [Function.iterate_succ_apply', ← ih]; rfl

theorem btTick_iterate_cnt (n : Nat) (b : BasicTimer) :
    (btTick^[n] b).cnt = b.cnt + BitVec.ofNat 8 n := by
  induction n with
  | zero => simp
  | succ n ih =>
    rw [Function.iterate_succ_apply', btTick, ih, BitVec.add_assoc, BitVec.ofNat_add]; rfl

theorem toNat_add_ofNat {x : Byte} {n : Nat} (h : x.toNat + n < 256) :
    (x + BitVec.ofNat 8 n).toNat = x.toNat + n := by
  rw [BitVec.toNat_add, BitVec.toNat_ofNat, Nat.add_mod_mod, Nat.mod_eq_of_lt h]

/-- With the watchdog enabled the count requests a reset at the step from FFH to 00H (R276). -/
theorem btTick_iterate_request {b : BasicTimer} (hw : watchdogEnabled b.con = true)
    (hr : b.request = false) (n : Nat) :
    (btTick^[n] b).request = true ↔ 256 ≤ b.cnt.toNat + n := by
  induction n with
  | zero => have := b.cnt.isLt; simp [hr]; omega
  | succ n ih =>
    rw [Function.iterate_succ_apply']
    simp only [btTick, Bool.or_eq_true, Bool.and_eq_true, beq_iff_eq, ih, btTick_iterate_con, hw,
      btTick_iterate_cnt, and_true]
    by_cases h : b.cnt.toNat + n < 256
    · rw [← BitVec.toNat_inj, toNat_add_ofNat h, show (0xFF : Byte).toNat = 255 from rfl]
      omega
    · omega

/-- Timer 0 counts up while it has not reached T0DATA, under either reading of T0_PERIOD (R283). -/
theorem t0Tick_iterate_before {c : Params} {t : Timer0} (n : Nat)
    (h : t.cnt.toNat + n < t.data.toNat) :
    (t0Tick c)^[n] t = { t with cnt := t.cnt + BitVec.ofNat 8 n } := by
  induction n with
  | zero => simp
  | succ n ih =>
    have hdata := t.data.isLt
    have hnext : t.cnt + BitVec.ofNat 8 n + 1 = t.cnt + BitVec.ofNat 8 (n + 1) := by
      rw [BitVec.add_assoc, BitVec.ofNat_add]; rfl
    have below {k : Nat} (hk : k ≤ n + 1) : t.cnt + BitVec.ofNat 8 k ≠ t.data := fun he => by
      have := toNat_add_ofNat (x := t.cnt) (n := k) (by omega)
      rw [he] at this
      omega
    have hmatch : t0Match c { t with cnt := t.cnt + BitVec.ofNat 8 n } = false := by
      unfold t0Match
      split
      · exact beq_eq_false_iff_ne.mpr (below (Nat.le_succ n))
      · exact beq_eq_false_iff_ne.mpr (hnext ▸ below (Nat.le_refl _))
    rw [Function.iterate_succ_apply', ih (by omega), t0Tick, hmatch, if_neg Bool.false_ne_true,
      hnext]

/-! ### The wait for the oscillator -/

/-- The periods of a wait before the signal of R243 (d) all pass. -/
theorem waitTicks_add {m : Nat} {s : State} (n : Nat)
    (h : ∀ k < m, (ticks k s).bt.stable = false) :
    waitTicks (m + n) s = waitTicks n (ticks m s) := by
  induction m generalizing s with
  | zero => rw [Nat.zero_add]; rfl
  | succ m ih =>
    have h0 : s.bt.stable = false := h 0 (Nat.succ_pos m)
    have hw : waitOver s = false := by simp [waitOver, h0]
    rw [Nat.succ_add, waitTicks, hw]
    exact ih fun k hk => h (k + 1) (Nat.succ_lt_succ hk)

theorem waitTicks_of_over {s : State} (h : waitOver s = true) (n : Nat) : waitTicks n s = s := by
  cases n <;> simp [waitTicks, h]

theorem tick_stable {s : State} (h : s.bt.stable = true) : (tick s).bt.stable = true := by
  by_cases hm : s.mode = .stop
  · rwa [tick_stop hm]
  · rw [tick_bt hm]
    split <;> simp [btTick, h]

/-- Once the signal has come the wait leaves BTCNT.4 at 1. -/
theorem waitTicks_stable {s : State} (n : Nat) (hs : s.bt.stable = true)
    (h4 : s.bt.cnt.getLsbD 4 = true) :
    (waitTicks n s).bt.stable = true ∧ (waitTicks n s).bt.cnt.getLsbD 4 = true := by
  induction n generalizing s with
  | zero => exact ⟨hs, h4⟩
  | succ n ih =>
    unfold waitTicks
    split
    · exact ⟨hs, h4⟩
    · rename_i hw
      refine ih (tick_stable hs) ?_
      simp only [waitOver, hs, Bool.true_and] at hw
      split at hw
      · simpa using hw
      · simp at hw

/-! ### The first instruction after a reset -/

/-- The Basic Timer that every reset leaves (R322). -/
def resetBt : BasicTimer := { con := 0x00, cnt := 0x00, request := false, stable := false }

theorem doReset_bt (src : ResetSource) (s : State) : (doReset src s).bt = resetBt := rfl

theorem doReset_mode (src : ResetSource) (s : State) : (doReset src s).mode = .resetWait := rfl

theorem doReset_running (src : ResetSource) (s : State) : (doReset src s).mode ≠ .stop := by
  rw [doReset_mode]; decide

theorem ticks_doReset_bt (src : ResetSource) (s : State) (n : Nat) :
    (ticks n (doReset src s)).bt = btTick^[n / 4096] resetBt := by
  rw [ticks_bt (doReset_running src s) rfl, doReset_bt]; rfl

theorem ticks_doReset_stable (src : ResetSource) (s : State) {n : Nat} (h : n < 65536) :
    (ticks n (doReset src s)).bt.stable = false := by
  have before_rise : ∀ j < 16, (btTick^[j] resetBt).stable = false := by decide
  rw [ticks_doReset_bt]
  exact before_rise _ (by omega)

/-- The Basic Timer when BTCNT.4 rises after a reset. -/
theorem ticks_doReset_bt_rise (src : ResetSource) (s : State) :
    (ticks 65536 (doReset src s)).bt = { resetBt with cnt := 0x10, stable := true } := by
  rw [ticks_doReset_bt]; decide

theorem ticks_doReset_t0_rise (src : ResetSource) (s : State) :
    (ticks 65536 (doReset src s)).t0.cnt = 0x10 := by
  have hd : t0Divider (doReset src s).t0.con = 4096 := (by decide : t0Divider 0x00 = 4096)
  rw [ticks_t0 (doReset_running src s) rfl, hd]
  exact congrArg Timer0.cnt (t0Tick_iterate_before (t := (doReset src s).t0) 16
    (show (0x00 : Byte).toNat + 16 < (0xFF : Byte).toNat by decide))

theorem ticks_doReset_div_rise (src : ResetSource) (s : State) :
    (ticks 65536 (doReset src s)).div = 0 := by
  rw [ticks_div (doReset_running src s)]
  show (0 : BitVec 12) + BitVec.ofNat 12 65536 = 0
  decide

/-- What the rise of BTCNT.4 leaves of the timers. -/
theorem ticks_doReset_rise (src : ResetSource) (s : State) {k : Nat} (hk : k = 65536) :
    (ticks k (doReset src s)).bt = { resetBt with cnt := 0x10, stable := true } ∧
    (ticks k (doReset src s)).t0.cnt = 0x10 ∧ (ticks k (doReset src s)).div = 0 := by
  subst hk
  exact ⟨ticks_doReset_bt_rise src s, ticks_doReset_t0_rise src s, ticks_doReset_div_rise src s⟩

/-- After a reset no interrupt is requested however long the machine waits: no enable bit is set
(R235, R322). -/
theorem ticks_doReset_irq (src : ResetSource) (s : State) (n : Nat) :
    (ticks n (doReset src s)).irq = false := by
  have bit : ∀ x : Byte, x &&& 0x02 = 0 → x.getLsbD 1 = false := by decide
  have ht0 : (ticks n (doReset src s)).t0.con.getLsbD 1 = false :=
    bit _ ((ticks_t0_con_and (by decide) n _).trans BitVec.zero_and)
  have hpwm : (ticks n (doReset src s)).pwm.con.getLsbD 1 = false :=
    bit _ ((ticks_pwm_con_and (by decide) n _).trans BitVec.zero_and)
  have hp0pnd : (doReset src s).ports.p0pnd = 0x00 := rfl
  simp only [State.irq, State.irqExt, ht0, hpwm, ticks_ports, hp0pnd, Bool.false_and,
    Bool.false_or]
  decide

theorem resetHeld_of_resetRequest {p : Bool} {s : State} (h : resetRequest p s = none) :
    resetHeld s = false := by
  unfold resetRequest at h
  cases hh : resetHeld s
  · rfl
  · cases p <;> simp [hh] at h

/-- A wait of at least 65536 periods after a reset ends with the rise of BTCNT.4 behind it. -/
theorem waitTicks_doReset (src : ResetSource) (s : State) {n : Nat} (hn : 65536 ≤ n) :
    ∃ k, waitTicks n (doReset src s) = ticks k (doReset src s) ∧
      (ticks k (doReset src s)).bt.stable = true ∧
      (ticks k (doReset src s)).bt.cnt.getLsbD 4 = true ∧
      (s.cfg.timeModel = .exact → k = 65536) := by
  obtain ⟨m, rfl⟩ := Nat.exists_eq_add_of_le hn
  have hbt := ticks_doReset_bt_rise src s
  have hsplit : waitTicks (65536 + m) (doReset src s) =
      waitTicks m (ticks 65536 (doReset src s)) :=
    waitTicks_add m fun k hk => ticks_doReset_stable src s hk
  by_cases hx : s.cfg.timeModel = .exact
  · have hover : waitOver (ticks 65536 (doReset src s)) = true := by
      simp [waitOver, hbt, hx]
    exact ⟨65536, hsplit.trans (waitTicks_of_over hover m), by rw [hbt], by rw [hbt]; decide,
      fun _ => rfl⟩
  · obtain ⟨j, -, hj⟩ := waitTicks_eq m (ticks 65536 (doReset src s))
    obtain ⟨hs, h4⟩ := waitTicks_stable m (s := ticks 65536 (doReset src s)) (by rw [hbt])
      (by rw [hbt]; decide)
    rw [hj, ← ticks_add] at hs h4
    exact ⟨65536 + j, by rw [hsplit, hj, ticks_add], hs, h4, fun h => absurd h hx⟩

/-- The step after a reset that no source holds: the wait over `n` periods. -/
theorem stepWith_doReset (src : ResetSource) (s : State) (n : Nat)
    (h : resetRequest false (doReset src s) = none) :
    stepWith { powerOn := false, events := [.ticks n] } (doReset src s) =
      .next (if (waitTicks n (doReset src s)).bt.stable then
        (waitTicks n (doReset src s)).setMode .run else waitTicks n (doReset src s)) := by
  simp only [stepWith, h, doReset_mode, stepWait, elapseBy, passTime,
    resetHeld_of_resetRequest h, Bool.false_eq_true, if_false]

/-- What the first instruction finds (R326): the state after the rise of BTCNT.4. -/
theorem firstInstruction (src : ResetSource) (s : State) {n : Nat} (hn : 65536 ≤ n)
    (h : resetRequest false (doReset src s) = none) :
    ∃ k, stepWith { powerOn := false, events := [.ticks n] } (doReset src s) =
        .next ((ticks k (doReset src s)).setMode .run) ∧
      (ticks k (doReset src s)).bt.cnt.getLsbD 4 = true ∧
      (s.cfg.timeModel = .exact → k = 65536) := by
  obtain ⟨k, hk, hs, h4, hx⟩ := waitTicks_doReset src s hn
  refine ⟨k, ?_, h4, hx⟩
  rw [stepWith_doReset src s n h, hk, if_pos hs]

/-- The watchdog's reset after the rise of BTCNT.4, where the program leaves the Basic Timer alone:
240 counts of 4096 periods (R326). -/
theorem watchdog_after_rise {u : State} (hm : u.mode ≠ .stop) (h0 : u.div = 0)
    (hbt : u.bt = { resetBt with cnt := 0x10, stable := true }) (m : Nat) :
    (ticks m u).bt.request = true ↔ 240 * 4096 ≤ m := by
  rw [ticks_bt hm h0, btTick_iterate_request (by rw [hbt]; decide) (by rw [hbt]; rfl), hbt]
  show 256 ≤ 16 + m / 4096 ↔ _
  omega

/-- Settles O53: the reset values by `doReset`, the first instruction by counting the periods. -/
theorem resetState : Obligations.ResetState := by
  intro src s
  refine ⟨rfl, rfl, (by decide : (0x00 : Byte).getLsbD Config.gieBit = false),
    ticks_doReset_irq src s 0, rfl, rfl, rfl, rfl, rfl, rfl, rfl, rfl, rfl, rfl, rfl, rfl, rfl, rfl,
    rfl, rfl, rfl, rfl, rfl, rfl, rfl, rfl, and_and_eq_zero (by decide) _, rfl, rfl, rfl, rfl, rfl,
    rfl, ?_, (by decide : watchdogEnabled 0x00 = true), rfl, fun n hn h => ?_⟩
  · rintro (rfl | rfl) <;> rfl
  · obtain ⟨k, hstep, h4, hk⟩ := firstInstruction src s hn h
    refine ⟨_, hstep, rfl, ticks_pc k _, ?_, ticks_doReset_irq src s k, h4, fun hx => ?_⟩
    · show (ticks k (doReset src s)).gie = false
      rw [State.gie, ticks_sym]
      exact (by decide : (0x00 : Byte).getLsbD Config.gieBit = false)
    · obtain ⟨hbt, ht0, hdiv⟩ := ticks_doReset_rise src s (hk hx)
      exact ⟨by rw [setMode_bt, hbt], ht0, hdiv, watchdog_after_rise (by simp) hdiv hbt⟩

end Sys2Proof.Machine
end

section
/-! Program memory and the operand forms: what no step changes, where the operands of an
instruction stand, and where a fetch stops (20_memory.md). -/

namespace Sys2Proof.Machine

/-! ### The parameters and program memory -/

/-- What the part comes with: its parameters and its program memory. -/
def State.rom (s : State) : Params × Memory := (s.cfg, s.prog)

/-- No parameter changes, and program memory does not where it is constant (R53, R66). -/
def KeepsRom (s t : State) : Prop :=
  t.cfg = s.cfg ∧ (s.cfg.progWritable = false → t.prog = s.prog)

theorem KeepsRom.of_rom_eq {s t : State} (h : t.rom = s.rom) : KeepsRom s t :=
  ⟨congrArg Prod.fst h, fun _ => congrArg Prod.snd h⟩

theorem ticks_rom (n : Nat) (s : State) : (ticks n s).rom = s.rom := by
  simp [State.rom]

theorem waitTicks_rom (n : Nat) (s : State) : (waitTicks n s).rom = s.rom := by
  simp [State.rom]

theorem applyEvent_rom (e : EnvEvent) (s : State) : (applyEvent e s).rom = s.rom := by
  simp [State.rom]

theorem elapse_rom (c : Byte) (n : Nat) (es : List EnvEvent) (s : State) :
    (elapse c n es s).rom = s.rom :=
  elapse_keeps State.rom ticks_rom applyEvent_rom c n es s

theorem stepReset_rom (src : ResetSource) (es : List EnvEvent) (s : State) :
    (stepReset src es s).rom = s.rom :=
  elapseExact_zero_keeps State.rom applyEvent_rom es (doReset src s)

theorem stepWait_rom (es : List EnvEvent) (s : State) : (stepWait es s).rom = s.rom := by
  have h : (elapseBy waitTicks es s).rom = s.rom :=
    elapseBy_keeps State.rom waitTicks_rom applyEvent_rom es s
  unfold stepWait
  dsimp only
  split <;> exact h

theorem stepIdle_rom (es : List EnvEvent) (s : State) : (stepIdle es s).rom = s.rom := by
  unfold stepIdle
  split
  · exact elapseExact_zero_keeps State.rom applyEvent_rom es (s.setMode .run)
  · exact elapseBy_keeps State.rom ticks_rom applyEvent_rom es s

theorem stepStop_rom (es : List EnvEvent) (s : State) : (stepStop es s).rom = s.rom := by
  have h : (elapseExact 0 es s).rom = s.rom := elapseExact_zero_keeps State.rom applyEvent_rom es s
  unfold stepStop
  dsimp only
  split <;> exact h

theorem BasicWrite.rom {e : Effects} {s t : State} (w : BasicWrite e s t) (he : e.prog = []) :
    t.rom = s.rom := by
  cases w with
  | prog _ _ ha => simp [he] at ha
  | store => simp [State.rom]
  | draw | goto | data | flags | freeFlags | sp | gie | mode => rfl

/-- A run of basic writes none of which is to program memory. -/
theorem Writes.rom {e : Effects} {s t : State} (w : Writes e s t) (he : e.prog = []) :
    t.rom = s.rom :=
  w.keeps State.rom fun _ _ b => b.rom he

/-- A store form of LDC goes on only where program memory accepts it (R53). -/
theorem storeProg_progWritable {len : Nat} {ea : Word} {r : WReg} {s t : State}
    (h : storeProg len ea r s = .next t) : s.cfg.progWritable = true := by
  obtain ⟨_, hw, _⟩ := andThen_eq_next.mp h
  exact (writeProg_eq_next.mp hw).1

/-- Where program memory is constant, what goes on is an instruction that does not store there. -/
theorem effects_prog_eq_nil {i : Instr} {s t : State} (h : exec i s = .next t)
    (hc : s.cfg.progWritable = false) : (effects i s).prog = [] := by
  cases i
  case ldc_Irr_r | ldc_XS_r | ldc_XL_r | ldc_DA_r =>
    exact absurd (storeProg_progWritable h) (by simp [hc])
  all_goals rfl

theorem exec_keepsRom {i : Instr} {s t : State} (h : exec i s = .next t) : KeepsRom s t :=
  ⟨(exec_writes h).frame.cfg,
    fun hc => congrArg Prod.snd ((exec_writes h).rom (effects_prog_eq_nil h hc))⟩

/-- Taking an interrupt stores to the stack only. -/
theorem interruptEntry_rom {s t : State} (h : interruptEntry s = .next t) : t.rom = s.rom := by
  obtain ⟨_, w⟩ := writes_interruptEntry h
  exact w.rom rfl

theorem KeepsRom.elapse {s t : State} (h : KeepsRom s t) (c : Byte) (n : Nat)
    (es : List EnvEvent) : KeepsRom s (elapse c n es t) := by
  obtain ⟨hcfg, hprog⟩ := h
  exact ⟨(elapse_cfg c n es t).trans hcfg, fun hc => (elapse_prog c n es t).trans (hprog hc)⟩

theorem stepWith_keepsRom {inp : StepInput} {s t : State} (h : stepWith inp s = .next t) :
    KeepsRom s t := by
  rcases stepWith_eq_next h with ⟨src, _, rfl⟩ | ⟨_, ⟨_, rfl⟩ | ⟨_, _, _, hr⟩ | ⟨_, _, hr⟩ |
    ⟨_, rfl⟩ | ⟨_, rfl⟩⟩
  · exact .of_rom_eq (stepReset_rom src _ s)
  · exact .of_rom_eq (stepWait_rom _ s)
  · obtain ⟨u, hu, rfl⟩ := runEntry_eq_next hr
    exact (KeepsRom.of_rom_eq (interruptEntry_rom hu)).elapse _ _ _
  · obtain ⟨i, u, hu, rfl⟩ := runInstruction_eq_next hr
    exact (exec_keepsRom hu).elapse _ _ _
  · exact .of_rom_eq (stepIdle_rom _ s)
  · exact .of_rom_eq (stepStop_rom _ s)

/-- Settles O13, by what a step does in each power state: only a store form of LDC writes program
memory, and it goes on only where `progWritable` holds. -/
theorem programMemoryConstant : Obligations.ProgramMemoryConstant :=
  fun s _ h => stepWith_keepsRom (s := s.dropInput) h

/-! ### The operand forms -/

/-- Settles O7: the address of each form, and the reads of `fetchTwo` in their order. -/
theorem operandForms : Obligations.OperandForms := by
  intro s
  refine ⟨fun n => ?_, fun n => ?_, fun _ => rfl, fun _ => rfl, fun b n => ?_, fun _ => rfl,
    fun d r => ⟨rfl, rfl, rfl, ?_, fetchTwo_after d r s⟩⟩
  · rw [address_r, wr_eq_ofNat]
  · rw [address_ir, wr_eq_ofNat]
  · rw [address_x, wr_eq_ofNat]
  · rintro o rfl
    rfl

/-! ### A fetch out of range -/

theorem withProgByte_in_range {a : Word} {s : State} (h : a.toNat < s.cfg.romSize)
    (k : Byte → Host.Outcome State Fault Refusal) : withProgByte a s k = k (progByte a s) :=
  if_pos h

theorem withProgByte_out_of_range {a : Word} {s : State} (h : s.cfg.romSize ≤ a.toNat)
    (k : Byte → Host.Outcome State Fault Refusal) :
    withProgByte a s k = .fault (.programAddressOutOfRange a) :=
  if_neg (Nat.not_lt.mpr h)

/-- The byte `j + 1` from `a` up is the byte `j` from the next address up. -/
theorem succ_add_ofNat (a : Word) (j : Nat) :
    a + 1 + BitVec.ofNat 16 j = a + BitVec.ofNat 16 (j + 1) := by
  rw [BitVec.add_assoc, Nat.add_comm j 1, BitVec.ofNat_add]
  rfl

/-- `k` is the first byte out of range of those from `a` up (R62). -/
def FirstOutOfRange (a : Word) (s : State) (k : Nat) : Prop :=
  (∀ j < k, (a + BitVec.ofNat 16 j).toNat < s.cfg.romSize) ∧
    s.cfg.romSize ≤ (a + BitVec.ofNat 16 k).toNat

theorem firstOutOfRange_zero {a : Word} {s : State} :
    FirstOutOfRange a s 0 ↔ s.cfg.romSize ≤ a.toNat := by
  simp [FirstOutOfRange]

theorem firstOutOfRange_succ {a : Word} {s : State} {k : Nat} :
    FirstOutOfRange a s (k + 1) ↔ a.toNat < s.cfg.romSize ∧ FirstOutOfRange (a + 1) s k := by
  simp only [FirstOutOfRange, Nat.forall_lt_succ_left, BitVec.add_zero, succ_add_ofNat, and_assoc]

/-- `n` bytes of which one is out of range: the fault is at the first that is. -/
theorem withProgBytes_out_of_range {n k : Nat} {a : Word} {s : State} (hk : k < n)
    (h : FirstOutOfRange a s k) (f : List Byte → Host.Outcome State Fault Refusal) :
    withProgBytes n a s f = .fault (.programAddressOutOfRange (a + BitVec.ofNat 16 k)) := by
  induction n generalizing k a f with
  | zero => omega
  | succ n ih =>
    cases k with
    | zero =>
      rw [withProgBytes, withProgByte_out_of_range (firstOutOfRange_zero.mp h), BitVec.add_zero]
    | succ k =>
      obtain ⟨ha, h⟩ := firstOutOfRange_succ.mp h
      rw [withProgBytes, withProgByte_in_range ha, ih (Nat.lt_of_succ_lt_succ hk) h, succ_add_ofNat]

/-- The first byte of an instruction out of range. -/
theorem withInstr_pc_out_of_range {s : State} (h : s.cfg.romSize ≤ s.pc.toNat)
    (f : Instr → Host.Outcome State Fault Refusal) :
    withInstr s f = .fault (.programAddressOutOfRange s.pc) :=
  withProgByte_out_of_range h _

/-- An instruction of `n` bytes of which one is out of range: the fault is at the first that is. -/
theorem withInstr_out_of_range {n k : Nat} {s : State} (hn : opLength (progByte s.pc s) = some n)
    (hk : k < n) (h : FirstOutOfRange s.pc s k) (f : Instr → Host.Outcome State Fault Refusal) :
    withInstr s f = .fault (.programAddressOutOfRange (s.pc + BitVec.ofNat 16 k)) := by
  cases k with
  | zero =>
    rw [withInstr_pc_out_of_range (firstOutOfRange_zero.mp h), BitVec.add_zero]
  | succ k =>
    rw [withInstr, withProgByte_in_range (firstOutOfRange_succ.mp h).1, hn]
    exact withProgBytes_out_of_range hk h _

/-- The step where neither a reset nor an interrupt comes first (R230, R236). -/
theorem step_of_runsNext {s : State} (h : s.runsNext) :
    step s = runInstruction s.nextInput.events s.dropInput := by
  obtain ⟨hmode, hreset, hint⟩ := h
  have hmode' : s.dropInput.mode = .run := hmode
  have hint' : (s.dropInput.gie && s.dropInput.irq) = false := hint
  simp only [step, stepWith, hreset, hmode', stepRun, hint', Bool.false_eq_true, if_false]

/-- A fetch that stops with a fault is the step's fault. -/
theorem step_fault_of_withInstr {s : State} {r : Fault} (h : s.runsNext)
    (hf : ∀ f, withInstr s.dropInput f = .fault r) : step s = .fault r := by
  rw [step_of_runsNext h]
  exact hf _

/-- Settles O10: the fetch of a straddling instruction stops at its first byte out of range. -/
theorem fetchOutOfRangeStops : Obligations.FetchOutOfRangeStops := by
  intro s hs
  refine ⟨fun h => step_fault_of_withInstr hs (withInstr_pc_out_of_range (s := s.dropInput) h),
    fun n k hn hk hin hout => step_fault_of_withInstr hs ?_⟩
  exact withInstr_out_of_range (s := s.dropInput) hn hk ⟨hin, hout⟩

end Sys2Proof.Machine
end

section
/-! The decoder and the encoder are inverse to each other (30_encoding.md R100 to R110): what each
column of the opcode map reads back from an encoding, and what the bytes it reads encode. -/

namespace Sys2Proof

/-! ### What the decoder looks at -/

@[simp] theorem byteAt_cons_zero (b : Byte) (bs : List Byte) : byteAt (b :: bs) 0 = b := rfl

@[simp] theorem byteAt_cons_succ (b : Byte) (bs : List Byte) (n : Nat) :
    byteAt (b :: bs) (n + 1) = byteAt bs n := rfl

/-- The four bytes that decoding looks at, with 0 beyond the end. -/
def firstBytes (bs : List Byte) : List Byte := [byteAt bs 0, byteAt bs 1, byteAt bs 2, byteAt bs 3]

theorem take_firstBytes {n : Nat} {bs : List Byte} (h4 : n ≤ 4) (h : n ≤ bs.length) :
    (firstBytes bs).take n = bs.take n := by
  refine List.ext_getElem (by simp [firstBytes, h4, h]) fun k hk _ => ?_
  have hkn : k < n := (List.length_take_le n _).trans_lt' hk
  have hk4 : k < 4 := hkn.trans_le h4
  have hget : bs[k] = byteAt bs k := by simp [byteAt, hkn.trans_le h]
  simp only [List.getElem_take, hget]
  interval_cases k <;> rfl

/-- What `decodeBytes` reads at the front of a list. -/
def readInstr (bs : List Byte) : Option Instr :=
  decodeBytes (byteAt bs 0) (byteAt bs 1) (byteAt bs 2) (byteAt bs 3)

theorem Instr.length_pos (i : Instr) : 0 < i.length := by cases i <;> exact Nat.zero_lt_succ _

theorem encode_length (i : Instr) : (encode i).length = i.length := by cases i <;> rfl

/-- Decoding answers an instruction when its first four bytes read as one and none is missing. -/
theorem decode_eq_instr {bs : List Byte} {i : Instr} :
    decode bs = .instr i ↔ readInstr bs = some i ∧ i.length ≤ bs.length := by
  cases bs with
  | nil => simp [decode, Nat.ne_of_gt i.length_pos]
  | cons b tail =>
    rw [decode_cons, readInstr, byteAt_cons_zero, byteAt_cons_succ, byteAt_cons_succ,
      byteAt_cons_succ]
    cases decodeBytes b (byteAt tail 0) (byteAt tail 1) (byteAt tail 2) with
    | none => simp
    | some j =>
      by_cases hlen : tail.length + 1 < j.length
      · have missing : j = i → i.length > tail.length + 1 := fun e => e ▸ hlen
        simpa [hlen] using missing
      · have enough : j = i → i.length ≤ tail.length + 1 := fun e => e ▸ Nat.le_of_not_lt hlen
        simpa [hlen] using enough

/-- Decoding rejects a first byte exactly where `opLength` gives it no length. -/
theorem decode_eq_undefinedOpcode {b : Byte} {tail : List Byte} :
    decode (b :: tail) = .undefinedOpcode b ↔ opLength b = none := by
  rw [decode_cons, opLength_eq b (byteAt tail 0) (byteAt tail 1) (byteAt tail 2)]
  cases decodeBytes b (byteAt tail 0) (byteAt tail 1) (byteAt tail 2) with
  | none => simp
  | some j => by_cases hlen : tail.length + 1 < j.length <;> simp [hlen]

/-- The length of what decodes is the one that its first byte fixes (R104). -/
theorem opLength_of_decode {b : Byte} {tail : List Byte} {i : Instr}
    (h : decode (b :: tail) = .instr i) : opLength b = some i.length := by
  have hread : decodeBytes b _ _ _ = some i := (decode_eq_instr.mp h).1
  rw [opLength_eq, hread]
  rfl

/-! ### The columns of the opcode map, by the low nibble of the first byte (R106) -/

section
variable (h : BitVec 4) (b2 b3 b4 : Byte)

theorem decodeBytes_column2 : decodeBytes (nibbles h 0x2) b2 b3 b4 = decodeColumn2 h b2 := by
  simp [decodeBytes]

theorem decodeBytes_column3 : decodeBytes (nibbles h 0x3) b2 b3 b4 = decodeColumn3 h b2 := by
  simp [decodeBytes]

theorem decodeBytes_column6 : decodeBytes (nibbles h 0x6) b2 b3 b4 = decodeColumn6 h b2 b3 := by
  simp [decodeBytes]

theorem decodeBytes_column7 : decodeBytes (nibbles h 0x7) b2 b3 b4 = decodeColumn7 h b2 b3 b4 := by
  simp [decodeBytes]

theorem decodeBytes_column8 : decodeBytes (nibbles h 0x8) b2 b3 b4 = some (.ld_r_R h b2) := by
  simp [decodeBytes]

theorem decodeBytes_column9 : decodeBytes (nibbles h 0x9) b2 b3 b4 = some (.ld_R_r b2 h) := by
  simp [decodeBytes]

theorem decodeBytes_columnB :
    decodeBytes (nibbles h 0xB) b2 b3 b4 = some (.jr_cc_RA (.ofCode h) b2) := by
  simp [decodeBytes]

theorem decodeBytes_columnC : decodeBytes (nibbles h 0xC) b2 b3 b4 = some (.ld_r_IM h b2) := by
  simp [decodeBytes]

theorem decodeBytes_columnD :
    decodeBytes (nibbles h 0xD) b2 b3 b4 = some (.jp_cc_DA (.ofCode h) (wordOf b2 b3)) := by
  simp [decodeBytes]

theorem decodeBytes_columnE : decodeBytes (nibbles h 0xE) b2 b3 b4 = some (.inc_r h) := by
  simp [decodeBytes]

end

/-! ### Decoding an encoding -/

/-- The encoding of an instruction reads as the instruction: what each form packs into its bytes is
what its column of the opcode map takes out of them. -/
theorem readInstr_encode_append (i : Instr) (tail : List Byte) (hwf : i.wellFormed = true) :
    readInstr (encode i ++ tail) = some i := by
  unfold readInstr
  cases i <;> simp only [encode, List.cons_append, List.nil_append, byteAt_cons_zero,
    byteAt_cons_succ]
  -- two working registers in the second byte, destination first
  case add_r_r d r | adc_r_r d r | sub_r_r d r | sbc_r_r d r | or_r_r d r | and_r_r d r |
      tcm_r_r d r | tm_r_r d r | cp_r_r d r | xor_r_r d r | add_r_Ir d r | adc_r_Ir d r |
      sub_r_Ir d r | sbc_r_Ir d r | or_r_Ir d r | and_r_Ir d r | tcm_r_Ir d r | tm_r_Ir d r |
      cp_r_Ir d r | xor_r_Ir d r | ld_r_Ir d r | ld_Ir_r d r =>
    exact congrArg some (congrArg₂ _ (hiNibble_nibbles d r) (loNibble_nibbles d r))
  -- the index register in the low nibble
  case ld_r_X => exact (decodeBytes_column7 0x8 _ _ _).trans (by simp [decodeColumn7])
  case ld_X_r => exact (decodeBytes_column7 0x9 _ _ _).trans (by simp [decodeColumn7])
  -- a field in the high nibble of the first byte
  case ld_r_R => exact decodeBytes_column8 _ _ _ _
  case ld_R_r => exact decodeBytes_column9 _ _ _ _
  case ld_r_IM => exact decodeBytes_columnC _ _ _ _
  case inc_r => exact decodeBytes_columnE _ _ _ _
  case jr_cc_RA => exact (decodeBytes_columnB _ _ _ _).trans (by rw [ofCode_code])
  case jp_cc_DA => exact (decodeBytes_columnD _ _ _ _).trans (by rw [ofCode_code, wordOf_hi_lo])
  -- the high address byte first
  case call_DA => exact (decodeBytes_column6 0xF _ _ _).trans (by simp [decodeColumn6])
  -- a pair and a space in the low nibble of the second byte
  case ldcd_r_Irr | lded_r_Irr =>
    exact (decodeBytes_column2 0xE _ _ _).trans (by simp [decodeColumn2])
  case ldc_r_Irr | lde_r_Irr =>
    exact (decodeBytes_column3 0xC _ _ _).trans (by simp [decodeColumn3])
  case ldc_Irr_r | lde_Irr_r =>
    exact (decodeBytes_column3 0xD _ _ _).trans (by simp [decodeColumn3])
  case ldci_r_Irr | ldei_r_Irr =>
    exact (decodeBytes_column3 0xE _ _ _).trans (by simp [decodeColumn3])
  case ldc_r_XS | lde_r_XS =>
    exact (decodeBytes_column7 0xE _ _ _).trans (by simp [decodeColumn7])
  case ldc_XS_r | lde_XS_r =>
    exact (decodeBytes_column7 0xF _ _ _).trans (by simp [decodeColumn7])
  -- the long forms, told from the direct ones by a pair that is not RR0 (R103 (h))
  case ldc_r_XL d w p | lde_r_XL d w p =>
    have hp : ¬p = 0#3 := by simpa [Instr.wellFormed] using hwf
    exact (decodeBytes_column7 0xA _ _ _).trans (by simp [decodeColumn7, decodeLongLoad, hp])
  case ldc_XL_r w p r | lde_XL_r w p r =>
    have hp : ¬p = 0#3 := by simpa [Instr.wellFormed] using hwf
    exact (decodeBytes_column7 0xB _ _ _).trans (by simp [decodeColumn7, decodeLongStore, hp])
  case ldc_r_DA | lde_r_DA =>
    exact (decodeBytes_column7 0xA _ _ _).trans (by simp [decodeColumn7, decodeLongLoad])
  case ldc_DA_r | lde_DA_r =>
    exact (decodeBytes_column7 0xB _ _ _).trans (by simp [decodeColumn7, decodeLongStore])
  -- every other form has whole bytes for operands, or none
  all_goals rfl

/-- Settles O1: the first four bytes read as the instruction, and none of them is missing. -/
theorem decodeOfEncode : Obligations.DecodeOfEncode := fun i tail hwf =>
  decode_eq_instr.mpr ⟨readInstr_encode_append i tail hwf, by
    rw [List.length_append, encode_length]; exact Nat.le_add_right _ _⟩

/-! ### Encoding what was decoded -/

theorem exists_nibbles (b : Byte) : ∃ h l, b = nibbles h l := ⟨_, _, (nibbles_hi_lo b).symm⟩

theorem exists_pairNibble (n : BitVec 4) : ∃ p d, n = pairNibble p d :=
  ⟨_, _, (pairNibble_pairOf n).symm⟩

/-- The term is an instruction, and the bytes begin with its encoding. -/
def Instr.IsFrontOf (i : Instr) (bs : List Byte) : Prop :=
  i.wellFormed = true ∧ bs.take i.length = encode i

section
variable {h : BitVec 4} {b1 b2 b3 b4 : Byte} {i : Instr}

theorem isFrontOf_of_decodeColumn0 (hi : decodeColumn0 h b2 = some i) :
    i.IsFrontOf [nibbles h 0x0, b2, b3, b4] := by
  unfold decodeColumn0 at hi
  split at hi <;> cases hi <;> exact ⟨rfl, rfl⟩

theorem isFrontOf_of_decodeColumn1 (hi : decodeColumn1 h b2 = some i) :
    i.IsFrontOf [nibbles h 0x1, b2, b3, b4] := by
  unfold decodeColumn1 at hi
  split at hi <;> cases hi <;> exact ⟨rfl, rfl⟩

theorem isFrontOf_of_decodeColumn2 (hi : decodeColumn2 h b2 = some i) :
    i.IsFrontOf [nibbles h 0x2, b2, b3, b4] := by
  obtain ⟨r, n, rfl⟩ := exists_nibbles b2
  obtain ⟨p, d, rfl⟩ := exists_pairNibble n
  simp only [decodeColumn2, hiNibble_nibbles, loNibble_nibbles, spaceOf_pairNibble,
    pairOf_pairNibble] at hi
  split at hi <;> cases hi
  all_goals cases d <;> exact ⟨rfl, rfl⟩

theorem isFrontOf_of_decodeColumn3 (hi : decodeColumn3 h b2 = some i) :
    i.IsFrontOf [nibbles h 0x3, b2, b3, b4] := by
  obtain ⟨r, n, rfl⟩ := exists_nibbles b2
  obtain ⟨p, d, rfl⟩ := exists_pairNibble n
  simp only [decodeColumn3, hiNibble_nibbles, loNibble_nibbles, spaceOf_pairNibble,
    pairOf_pairNibble] at hi
  split at hi <;> cases hi
  all_goals cases d <;> exact ⟨rfl, rfl⟩

theorem isFrontOf_of_decodeColumn4 (hi : decodeColumn4 h b2 b3 = some i) :
    i.IsFrontOf [nibbles h 0x4, b2, b3, b4] := by
  unfold decodeColumn4 at hi
  split at hi <;> cases hi <;> exact ⟨rfl, rfl⟩

theorem isFrontOf_of_decodeColumn5 (hi : decodeColumn5 h b2 b3 = some i) :
    i.IsFrontOf [nibbles h 0x5, b2, b3, b4] := by
  unfold decodeColumn5 at hi
  split at hi <;> cases hi <;> exact ⟨rfl, rfl⟩

theorem isFrontOf_call_DA : (Instr.call_DA (wordOf b2 b3)).IsFrontOf [0xF6, b2, b3, b4] :=
  ⟨rfl, by simp [encode, Instr.length]⟩

theorem isFrontOf_of_decodeColumn6 (hi : decodeColumn6 h b2 b3 = some i) :
    i.IsFrontOf [nibbles h 0x6, b2, b3, b4] := by
  unfold decodeColumn6 at hi
  split at hi <;> cases hi
  case h_13 => exact isFrontOf_call_DA
  all_goals exact ⟨rfl, rfl⟩

/-- A7: the pair nibbles of RR0 are the direct-address forms (R103 (h)). -/
theorem isFrontOf_decodeLongLoad (r n : BitVec 4) :
    (decodeLongLoad r n (wordOf b4 b3)).IsFrontOf [0xA7, nibbles r n, b3, b4] := by
  obtain ⟨p, d, rfl⟩ := exists_pairNibble n
  by_cases hp : p = 0#3
  · subst hp
    cases d <;> simp [decodeLongLoad, Instr.IsFrontOf, Instr.wellFormed, encode, Instr.length]
  · cases d <;> simp [decodeLongLoad, Instr.IsFrontOf, Instr.wellFormed, encode, Instr.length, hp]

/-- B7: the pair nibbles of RR0 are the direct-address forms (R103 (h)). -/
theorem isFrontOf_decodeLongStore (r n : BitVec 4) :
    (decodeLongStore r n (wordOf b4 b3)).IsFrontOf [0xB7, nibbles r n, b3, b4] := by
  obtain ⟨p, d, rfl⟩ := exists_pairNibble n
  by_cases hp : p = 0#3
  · subst hp
    cases d <;> simp [decodeLongStore, Instr.IsFrontOf, Instr.wellFormed, encode, Instr.length]
  · cases d <;> simp [decodeLongStore, Instr.IsFrontOf, Instr.wellFormed, encode, Instr.length, hp]

theorem isFrontOf_of_decodeColumn7 (hi : decodeColumn7 h b2 b3 b4 = some i) :
    i.IsFrontOf [nibbles h 0x7, b2, b3, b4] := by
  obtain ⟨r, n, rfl⟩ := exists_nibbles b2
  obtain ⟨p, d, rfl⟩ := exists_pairNibble n
  simp only [decodeColumn7, hiNibble_nibbles, loNibble_nibbles, spaceOf_pairNibble,
    pairOf_pairNibble] at hi
  split at hi <;> cases hi
  case h_3 => exact isFrontOf_decodeLongLoad r (pairNibble p d)
  case h_4 => exact isFrontOf_decodeLongStore r (pairNibble p d)
  all_goals cases d <;> exact ⟨rfl, rfl⟩

theorem isFrontOf_of_decodeColumnF (hi : decodeColumnF h = some i) :
    i.IsFrontOf [nibbles h 0xF, b2, b3, b4] := by
  unfold decodeColumnF at hi
  split at hi <;> cases hi <;> exact ⟨rfl, rfl⟩

theorem isFrontOf_of_decodeBytes (hi : decodeBytes b1 b2 b3 b4 = some i) :
    i.IsFrontOf [b1, b2, b3, b4] := by
  obtain ⟨h, l, rfl⟩ := exists_nibbles b1
  simp only [decodeBytes, hiNibble_nibbles, loNibble_nibbles] at hi
  split at hi
  · exact isFrontOf_of_decodeColumn0 hi
  · exact isFrontOf_of_decodeColumn1 hi
  · exact isFrontOf_of_decodeColumn2 hi
  · exact isFrontOf_of_decodeColumn3 hi
  · exact isFrontOf_of_decodeColumn4 hi
  · exact isFrontOf_of_decodeColumn5 hi
  · exact isFrontOf_of_decodeColumn6 hi
  · exact isFrontOf_of_decodeColumn7 hi
  · cases hi; exact ⟨rfl, rfl⟩
  · cases hi; exact ⟨rfl, rfl⟩
  · cases hi; exact ⟨rfl, by simp [encode, Instr.length]⟩
  · cases hi; exact ⟨rfl, rfl⟩
  · cases hi; exact ⟨rfl, by simp [encode, Instr.length]⟩
  · cases hi; exact ⟨rfl, rfl⟩
  · exact isFrontOf_of_decodeColumnF hi
  · cases hi

end

/-- Settles O2, column by column of the opcode map. -/
theorem encodeOfDecode : Obligations.EncodeOfDecode := by
  intro bs i hdecode
  obtain ⟨hread, hlen⟩ := decode_eq_instr.mp hdecode
  obtain ⟨hwf, hfront⟩ : i.IsFrontOf (firstBytes bs) := isFrontOf_of_decodeBytes hread
  have h4 : i.length ≤ 4 := by
    rw [← encode_length, ← hfront]
    exact List.length_take_le' _ _
  exact ⟨hwf, (take_firstBytes h4 hlen).symm.trans hfront⟩

/-! ### The length that the first byte fixes -/

theorem loNibble_toNat (b : Byte) : (loNibble b).toNat = b.toNat % 16 := by
  simp [loNibble, BitVec.extractLsb'_toNat]

/-- What holds of every length in some columns of the opcode map, row by row, holds of every
instruction whose first byte stands in one of them. -/
theorem length_of_columns {b : Byte} {n : Nat} (hb : opLength b = some n) (column : Nat → Prop)
    (P : Byte → Nat → Prop)
    (hcol : ∀ l : BitVec 4, column l.toNat → ∀ h, ∀ m ∈ opLength (nibbles h l), P (nibbles h l) m)
    (hl : column (b.toNat % 16)) : P b n := by
  obtain ⟨h, l, rfl⟩ := exists_nibbles b
  rw [← loNibble_toNat, loNibble_nibbles] at hl
  exact hcol l hl h n hb

/-- Settles O3: the length is the one of the first byte, and that one goes by the columns; in
column 7 by the row as well. -/
theorem lengthFromFirstByte : Obligations.LengthFromFirstByte := by
  intro b tail i hdecode
  have hb : opLength b = some i.length := opLength_of_decode hdecode
  refine ⟨?_, ?_, ?_, ?_, ?_, ?_, ?_, ?_⟩
  · exact length_of_columns hb (· ≤ 3) (fun _ n => n = 2) (by decide)
  · exact length_of_columns hb (fun l => l = 4 ∨ l = 5 ∨ l = 6)
      (fun b n => n = if b = 0xF4 then 2 else 3) (by decide)
  · rintro (rfl | rfl | rfl | rfl) <;> exact (Option.some.inj hb).symm
  · rintro (rfl | rfl) <;> exact (Option.some.inj hb).symm
  · rintro (rfl | rfl) <;> exact (Option.some.inj hb).symm
  · exact length_of_columns hb (fun l => l = 8 ∨ l = 9 ∨ l = 11 ∨ l = 12) (fun _ n => n = 2)
      (by decide)
  · exact length_of_columns hb (· = 13) (fun _ n => n = 3) (by decide)
  · exact length_of_columns hb (fun l => l = 14 ∨ l = 15) (fun _ n => n = 1) (by decide)

/-! ### Words of the worked examples -/

theorem decode_encode {i : Instr} (hwf : i.wellFormed = true) : decode (encode i) = .instr i := by
  rw [← List.append_nil (encode i)]
  exact decodeOfEncode i [] hwf

/-- Settles O5: each word is the encoding of the instruction it stands for. -/
theorem decodeReadsSpecWords : Obligations.DecodeReadsSpecWords :=
  ⟨decode_encode (i := .add_r_r 1 2) rfl, decode_encode (i := .adc_R_IR 0x01 0x02) rfl,
    decode_encode (i := .sbc_R_IM 0x01 0x8A) rfl, decode_encode (i := .inc_r 1) rfl,
    decode_encode (i := .xor_R_R 0x00 0x01) rfl, decode_encode (i := .tcm_r_Ir 0 1) rfl,
    decode_encode (i := .sra_IR 0x02) rfl, decode_encode (i := .ld_X_r 0x30 0 1) rfl,
    decode_encode (i := .ldc_r_XL 0 0x1000 1) rfl, decode_encode (i := .lde_DA_r 0x1105 0) rfl,
    decode_encode (i := .ldci_r_Irr 8 3) rfl, decode_encode (i := .jp_cc_DA .c 0x1000) rfl,
    decode_encode (i := .jr_cc_RA .c 0x05) rfl, decode_encode (i := .call_DA 0x1521) rfl,
    decode_encode (i := .stop) rfl⟩

end Sys2Proof
end

section
/-! The undefined first bytes and the condition codes (30_encoding.md R105, R107). -/

namespace Sys2Proof.Machine

/-! ### Undefined first bytes -/

set_option maxRecDepth 10000 in
/-- The first bytes without a length are the ones that R107 lists. -/
theorem opLength_eq_none {b : Byte} : opLength b = none ↔ b ∈ undefinedOpcodes := by
  revert b
  decide

theorem withInstr_undefined {s : State} (hpc : s.pc.toNat < s.cfg.romSize)
    (hb : progByte s.pc s ∈ undefinedOpcodes) (f : Instr → Host.Outcome State Fault Refusal) :
    withInstr s f = .fault (.undefinedOpcode (progByte s.pc s)) := by
  rw [withInstr, withProgByte_in_range hpc, opLength_eq_none.mpr hb]

/-- Settles O4: the decoder and the fetch both reject where `opLength` gives no length. -/
theorem undefinedOpcodeStops : Obligations.UndefinedOpcodeStops :=
  ⟨rfl, by decide, fun _ _ => decode_eq_undefinedOpcode.trans opLength_eq_none,
    fun s hs hpc hb => step_fault_of_withInstr hs (withInstr_undefined (s := s.dropInput) hpc hb)⟩

/-! ### The condition codes -/

/-- The condition that holds exactly where this one does not (R105). -/
def complement : Cond → Cond
  | .f => .t
  | .lt => .ge
  | .le => .gt
  | .ule => .ugt
  | .ov => .nov
  | .mi => .pl
  | .z => .nz
  | .c => .nc
  | .t => .f
  | .ge => .lt
  | .gt => .le
  | .ugt => .ule
  | .nov => .ov
  | .pl => .mi
  | .nz => .z
  | .nc => .c

/-- The high bit of a code complements the condition (R105). -/
theorem ofCode_xor_eight (cc : BitVec 4) :
    Cond.ofCode (cc ^^^ 0x8) = complement (Cond.ofCode cc) := by
  revert cc
  decide

theorem holds_complement (f : Czsv) (cc : Cond) : f.holds (complement cc) = !f.holds cc := by
  cases cc <;> simp [complement, Czsv.holds]

theorem holds_ge (f : Czsv) : f.holds .ge ↔ f.s = f.v := by simp [Czsv.holds]

theorem holds_lt (f : Czsv) : f.holds .lt ↔ f.s ≠ f.v := by simp [Czsv.holds]

theorem holds_gt (f : Czsv) : f.holds .gt ↔ f.z = false ∧ f.s = f.v := by simp [Czsv.holds]

theorem holds_le (f : Czsv) : f.holds .le ↔ f.z = true ∨ f.s ≠ f.v := by simp [Czsv.holds]

theorem holds_ugt (f : Czsv) : f.holds .ugt ↔ f.c = false ∧ f.z = false := by simp [Czsv.holds]

theorem holds_ule (f : Czsv) : f.holds .ule ↔ f.c = true ∨ f.z = true := by simp [Czsv.holds]

/-- Settles O6: each code by its condition, and the complements by the high bit of the code. -/
theorem conditionCodes : Obligations.ConditionCodes := fun f =>
  ⟨rfl, rfl, Iff.rfl, (Bool.not_eq_true' f.c).to_iff, Iff.rfl, (Bool.not_eq_true' f.z).to_iff,
    (Bool.not_eq_true' f.s).to_iff, Iff.rfl, Iff.rfl, (Bool.not_eq_true' f.v).to_iff, holds_ge f,
    holds_lt f, holds_gt f, holds_le f, holds_ugt f, holds_ule f,
    fun cc => by rw [ofCode_xor_eight, holds_complement]⟩

end Sys2Proof.Machine
end

section
/-! The load instructions (40_load.md R130 to R145): how a move, a load, a store, a POP and a PUSH
complete, and the encodings of their forms. -/

namespace Sys2Proof.Machine

/-! ### Encodings -/

/-- A byte list decodes to the well-formed instruction that it encodes. -/
theorem decode_of_encode_eq {bs : List Byte} {i : Instr} (hb : encode i = bs := by rfl)
    (hwf : i.wellFormed = true := by rfl) : decode bs = .instr i :=
  hb ▸ decode_encode hwf

/-- The four-byte forms: a direct address where the pair is RR0, else an offset from the pair; low
byte of the address first (R103 (e), (f), (h)). -/
theorem decode_longForm {op : Byte} {n : BitVec 4} {data : Bool} {p : Pair} {hi lo : Byte}
    {direct indexed : Instr}
    (hdirect : encode direct = [op, nibbles n (pairNibble 0 data), lo, hi] := by simp [encode])
    (hindexed : encode indexed = [op, nibbles n (pairNibble p data), lo, hi] := by simp [encode])
    (hdirectWf : direct.wellFormed = true := by rfl)
    (hindexedWf : indexed.wellFormed = (p != 0) := by rfl) :
    decode [op, nibbles n (pairNibble p data), lo, hi] =
      .instr (if p = 0 then direct else indexed) := by
  by_cases hp : p = 0
  · rw [if_pos hp, hp]
    exact decode_of_encode_eq hdirect hdirectWf
  · rw [if_neg hp]
    exact decode_of_encode_eq hindexed (hindexedWf.trans (bne_iff_ne.mpr hp))

/-! ### Program and data memory -/

theorem withDataByte_present {a : Word} {s : State} (h : s.cfg.hasDataMem = true)
    (k : Byte → Host.Outcome State Fault Refusal) : withDataByte a s k = k (dataByte a s) :=
  if_pos h

theorem withDataByte_absent {a : Word} {s : State} (h : s.cfg.hasDataMem = false)
    (k : Byte → Host.Outcome State Fault Refusal) : withDataByte a s k = .refused .noDataMemory :=
  if_neg (Bool.eq_false_iff.mp h)

/-- A byte stored in a canonical memory is read back, and nowhere else does a read change. -/
theorem cellRead_cellWrite {dflt : Byte} {size : Nat} {m : Memory} (h : Memory.wf dflt size m)
    (a : Nat) (v : Byte) :
    cellRead dflt (cellWrite dflt m a v) a = v ∧
      ∀ b, b ≠ a → cellRead dflt (cellWrite dflt m a v) b = cellRead dflt m b :=
  ⟨cellRead_write_same dflt m a v h.1, fun _ hb => cellRead_write_other dflt m v hb⟩

section
variable {len : Nat} {ea : Word} {r : WReg} {s : State}

/-- A store form of LDC where program memory is constant (R53). -/
theorem storeProg_constant (h : s.cfg.progWritable = false) :
    storeProg len ea r s = .refused .storeToProgramMemory := by
  simp [storeProg, writeProg, h]

/-- A store form of LDC at or above ROM_SIZE (R52). -/
theorem storeProg_out_of_range (h : s.cfg.progWritable = true) (hea : s.cfg.romSize ≤ ea.toNat) :
    storeProg len ea r s = .fault (.programAddressOutOfRange ea) := by
  simp [storeProg, writeProg, h, Nat.not_lt.mpr hea]

/-- A store form of LDC that completes (R138). -/
theorem storeProg_in_range (h : s.cfg.progWritable = true) (hea : ea.toNat < s.cfg.romSize) :
    storeProg len ea r s = .next
      { s with prog := cellWrite progDefault s.prog ea.toNat (peek (wr r) s)
               pc := s.pc + BitVec.ofNat 16 len } := by
  rw [storeProg, writeProg_eq_next.mpr ⟨h, hea, rfl⟩, andThen_next]
  rfl

/-- A store form of LDE where there is no data memory (R54). -/
theorem storeData_absent (h : s.cfg.hasDataMem = false) :
    storeData len ea r s = .refused .noDataMemory := by
  simp [storeData, writeData, h]

/-- A store form of LDE that completes (R139). -/
theorem storeData_present (h : s.cfg.hasDataMem = true) :
    storeData len ea r s = .next
      { s with data := cellWrite dataDefault s.data ea.toNat (peek (wr r) s)
               pc := s.pc + BitVec.ofNat 16 len } := by
  rw [storeData, writeData_eq_next.mpr ⟨h, rfl⟩, andThen_next]
  rfl

end

/-- Settles O36: the four forms are `storeProg` at their address. -/
theorem ldcStores : Obligations.LdcStores := by
  refine ⟨fun _ _ _ => ⟨decode_of_encode_eq, decode_of_encode_eq⟩,
    fun _ _ _ _ => decode_longForm, fun s i r ea len hform => ?_⟩
  have hexec : exec i s = storeProg len ea r s := by
    rcases hform with ⟨p, rfl, rfl, rfl⟩ | ⟨xs, p, rfl, rfl, rfl⟩ | ⟨xl, p, rfl, rfl, rfl⟩ |
      ⟨rfl, rfl⟩ <;> rfl
  rw [hexec]
  exact ⟨storeProg_constant, storeProg_out_of_range, fun hw hea hwf =>
    ⟨_, storeProg_in_range hw hea, cellRead_cellWrite hwf ea.toNat (peek (wr r) s)⟩⟩

/-- Settles O37: the load forms are `loadData` at their address and the store forms `storeData`. -/
theorem ldeForms : Obligations.LdeForms := by
  refine ⟨fun _ _ _ => ⟨decode_of_encode_eq, decode_of_encode_eq⟩,
    fun _ _ _ _ => decode_longForm,
    fun _ _ _ => ⟨decode_of_encode_eq, decode_of_encode_eq⟩,
    fun _ _ _ _ => decode_longForm,
    fun s ea len => ⟨fun i d hform => ?_, fun i r hform => ?_⟩⟩
  · have hexec : exec i s = loadData len d ea s := by
      rcases hform with ⟨p, rfl, rfl, rfl⟩ | ⟨xs, p, rfl, rfl, rfl⟩ | ⟨xl, p, rfl, rfl, rfl⟩ |
        ⟨rfl, rfl⟩ <;> rfl
    rw [hexec]
    exact ⟨fun h => withDataByte_absent h _, fun h => withDataByte_present h _⟩
  · have hexec : exec i s = storeData len ea r s := by
      rcases hform with ⟨p, rfl, rfl, rfl⟩ | ⟨xs, p, rfl, rfl, rfl⟩ | ⟨xl, p, rfl, rfl, rfl⟩ |
        ⟨rfl, rfl⟩ <;> rfl
    rw [hexec]
    exact ⟨storeData_absent, fun h hwf =>
      ⟨_, storeData_present h, cellRead_cellWrite hwf ea.toNat (peek (wr r) s)⟩⟩

/-- Settles O35: the four forms are `loadProg` at their address. -/
theorem ldcLoads : Obligations.LdcLoads := by
  refine ⟨fun _ _ _ => ⟨decode_of_encode_eq, decode_of_encode_eq⟩,
    fun _ _ _ _ => decode_longForm, fun s i d ea len hform => ?_⟩
  have hexec : exec i s = loadProg len d ea s := by
    rcases hform with ⟨p, rfl, rfl, rfl⟩ | ⟨xs, p, rfl, rfl, rfl⟩ | ⟨xl, p, rfl, rfl, rfl⟩ |
      ⟨rfl, rfl⟩ <;> rfl
  rw [hexec]
  exact ⟨fun h => withProgByte_in_range h _, fun h => withProgByte_out_of_range h _⟩

/-- Settles O38: each form reads its byte where the pair points and goes on by `loadThenStep`. -/
theorem loadAndStepPair : Obligations.LoadAndStepPair := by
  refine ⟨fun _ _ => ⟨decode_of_encode_eq, decode_of_encode_eq, decode_of_encode_eq,
    decode_of_encode_eq⟩, fun s d p => ?_⟩
  exact ⟨fun h => ⟨withProgByte_in_range h _, withProgByte_in_range h _⟩,
    fun h => ⟨withProgByte_out_of_range h _, withProgByte_out_of_range h _⟩,
    fun h => ⟨withDataByte_present h _, withDataByte_present h _⟩,
    fun h => ⟨withDataByte_absent h _, withDataByte_absent h _⟩⟩

/-! ### Moves -/

/-- A working register has no free bits: reading it draws nothing. -/
theorem readReg_wr (n : WReg) (s : State) : readReg (wr n) s = (peek (wr n) s, s) := by
  rw [readReg, afterRead, if_pos (freeMask_ram (wr_lt n) s)]

theorem value_r (n : WReg) (s : State) :
    (Source.place (.r n)).value s = (peek (wr n) s, s) :=
  readReg_wr n s

theorem value_ir (n : WReg) (s : State) :
    (Source.place (.ir n)).value s = (peek (peek (wr n) s) s, afterRead (peek (wr n) s) s) := by
  rw [Source.value, address_ir, readReg]

theorem value_x (b : Byte) (n : WReg) (s : State) :
    (Source.place (.x b n)).value s =
      (peek (b + peek (wr n) s) s, afterRead (b + peek (wr n) s) s) := by
  rw [Source.value, address_x, readReg]

/-- A move completes with the value of its source at the address of its destination, for an address
that a write reaches. -/
theorem move_completes {len : Nat} {dst : Operand} {src : Source} {s t u : State} {a v : Byte}
    (hdst : dst.address s = (a, t)) (hsrc : src.value t = (v, u)) (h : writeRefusal a v = none) :
    move len dst src s = .next ((storeReg a v u).advance len) := by
  rw [move_eq_next, hdst, hsrc]
  exact ⟨h, rfl⟩

/-- A move into a working register always completes. -/
theorem move_r_completes {len : Nat} {d : WReg} {src : Source} {s u : State} {v : Byte}
    (hsrc : src.value s = (v, u)) :
    move len (.r d) src s = .next ((storeReg (wr d) v u).advance len) :=
  move_completes (address_r d s) hsrc (writeRefusal_wr d v)

/-- Settles O32: each form is a move from its source to its destination. -/
theorem clearAndLoad : Obligations.ClearAndLoad := by
  refine ⟨⟨fun _ => decode_of_encode_eq, fun _ => decode_of_encode_eq⟩,
    fun _ _ => ⟨decode_of_encode_eq, decode_of_encode_eq, decode_of_encode_eq⟩,
    fun _ _ => ⟨decode_of_encode_eq, decode_of_encode_eq⟩,
    fun _ _ => ⟨decode_of_encode_eq, decode_of_encode_eq, decode_of_encode_eq,
      decode_of_encode_eq, decode_of_encode_eq⟩,
    fun s => ?_⟩
  exact ⟨fun a => move_completes rfl rfl, fun a => move_completes rfl rfl,
    fun r v => move_r_completes rfl, fun r a => move_r_completes rfl,
    fun a r => move_completes rfl (value_r r s), fun d r => move_r_completes (value_ir r s),
    fun d r => move_completes (address_ir d s) (value_r r s),
    fun d a => move_completes rfl rfl, fun d a => move_completes rfl rfl,
    fun d v => move_completes rfl rfl, fun d v => move_completes rfl rfl,
    fun d a => move_completes rfl rfl⟩

/-- Settles O33: a move from or to the base plus the index register, modulo 256. -/
theorem loadIndexed : Obligations.LoadIndexed := by
  refine ⟨fun _ _ _ => ⟨decode_of_encode_eq, decode_of_encode_eq⟩,
    fun s => ⟨fun d x i => ?_, fun x i r => ?_⟩⟩
  · rw [← BitVec.add_def]
    exact move_r_completes (value_x x i s)
  · rw [← BitVec.add_def]
    exact move_completes (address_x x i s) (value_r r s)

/-! ### POP and PUSH -/

/-- A POP completes: the byte at SP is stored, then SP is incremented as it then stands (R144). -/
theorem popOperand_completes {len : Nat} {dst : Operand} {s u : State} {a : Byte}
    (hdst : dst.address s = (a, u)) (h : writeRefusal a (peek s.sp u) = none) :
    let t := storeReg a (peek s.sp u) (afterRead s.sp u)
    popOperand len dst s = .next { t with sp := t.sp + 1, pc := s.pc + BitVec.ofNat 16 len } := by
  intro t
  obtain ⟨k, hk⟩ := address_snd dst s
  obtain rfl : u = s.drawMore k := by rw [← hk, hdst]
  have hpc : t.pc = s.pc := by simp [t, afterRead_eq]
  rw [popOperand_eq_next, hdst]
  refine ⟨_, t, rfl, h, rfl, ?_⟩
  rw [← hpc]
  rfl

/-- A PUSH completes: SP is decremented, then the byte is read and stored at SP (R145). -/
theorem pushOperand_completes {len : Nat} {src : Operand} {s u : State} {a : Byte}
    (hsrc : src.address s = (a, u))
    (h : writeRefusal (s.sp - 1) (peek a (u.setSp (s.sp - 1))) = none) :
    pushOperand len src s = .next ((storeReg (s.sp - 1) (peek a (u.setSp (s.sp - 1)))
      (afterRead a (u.setSp (s.sp - 1)))).advance len) := by
  obtain ⟨k, hk⟩ := address_snd src s
  obtain rfl : u = s.drawMore k := by rw [← hk, hsrc]
  have hsp : (afterRead a ((s.drawMore k).setSp (s.sp - 1))).sp = s.sp - 1 := by
    rw [afterRead_eq]; rfl
  rw [pushOperand_eq_next, hsrc]
  exact ⟨_, rfl, by rw [readReg, drawMore_sp, hsp]; exact h, by rw [readReg, drawMore_sp, hsp]⟩

/-- Settles O39: each form is a POP or a PUSH of its operand. -/
theorem popAndPush : Obligations.PopAndPush :=
  ⟨⟨fun _ => decode_of_encode_eq, fun _ => decode_of_encode_eq⟩,
    ⟨fun _ => decode_of_encode_eq, fun _ => decode_of_encode_eq⟩,
    fun _ => ⟨fun _ => popOperand_completes rfl, fun _ => popOperand_completes rfl,
      fun _ => pushOperand_completes rfl, fun _ => pushOperand_completes rfl⟩⟩

end Sys2Proof.Machine
end

section
/-! The arithmetic of the instructions (41_arithmetic.md R160 to R168): the operations on bit
vectors are the rules in whole numbers, and what the flags of the rules say. -/

namespace Sys2Proof.Machine

/-! ### A byte as a signed number -/

/-- S of a byte says that the byte is 80H or above. -/
theorem getLsbD_seven (b : Byte) : b.getLsbD 7 = decide (128 ≤ b.toNat) :=
  (BitVec.msb_eq_getLsbD_last b).symm.trans (BitVec.msb_eq_decide b)

theorem byte_toInt (b : Byte) :
    b.toInt = if b.toNat < 128 then (b.toNat : Int) else b.toNat - 256 := by
  rw [BitVec.toInt_eq_toNat_cond]
  split <;> split <;> omega

/-! ### The operations in whole numbers -/

/-- The ninth bit keeps the sum from wrapping. -/
theorem sum9_toNat (dv sv : Byte) (carry : Bool) :
    (sum9 dv sv carry).toNat = dv.toNat + sv.toNat + carry.toNat := by
  have hc := carry.toNat_le
  simp only [sum9, BitVec.toNat_add, BitVec.truncate_eq_setWidth, BitVec.toNat_setWidth,
    BitVec.toNat_ofBool]
  omega

/-- A borrow wraps the nine-bit difference once, by 512. -/
theorem diff9_toNat (dv sv : Byte) (borrow : Bool) :
    ((diff9 dv sv borrow).toNat : Int) = ((dv.toNat : Int) - sv.toNat - borrow.toNat) % 512 := by
  have hc := borrow.toNat_le
  simp only [diff9, BitVec.toNat_sub, BitVec.truncate_eq_setWidth, BitVec.toNat_setWidth,
    BitVec.toNat_ofBool]
  omega

/-- The top bit of a nine-bit number. -/
theorem getLsbD_eight (t : BitVec 9) : t.getLsbD 8 = decide (256 ≤ t.toNat) :=
  (BitVec.msb_eq_getLsbD_last t).symm.trans (BitVec.msb_eq_decide t)

theorem flagsOf_eq (res : Byte) (c v : Bool) :
    flagsOf res c v = { c := c, z := decide (res = 0), s := res.getLsbD 7, v := v } := rfl

theorem addOverflow_eq (dv sv res : Byte) : addOverflow dv sv res =
    decide (dv.getLsbD 7 = sv.getLsbD 7 ∧ res.getLsbD 7 ≠ dv.getLsbD 7) := by
  rw [Bool.eq_iff_iff]
  simp [addOverflow]

theorem addWith_eq_sumRule (carry : Bool) (dv sv : Byte) :
    addWith carry dv sv = sumRule carry.toNat dv sv := by
  have hres : (sum9 dv sv carry).setWidth 8 =
      BitVec.ofNat 8 (dv.toNat + sv.toNat + carry.toNat) := by
    rw [← sum9_toNat]; rfl
  simp only [addWith, sumRule, flagsOf_eq, addOverflow_eq, hres, getLsbD_eight, sum9_toNat]

theorem subOverflow_eq (dv sv res : Byte) : subOverflow dv sv res =
    decide (dv.getLsbD 7 ≠ sv.getLsbD 7 ∧ res.getLsbD 7 = sv.getLsbD 7) := by
  rw [Bool.eq_iff_iff]
  simp [subOverflow]

theorem subWith_eq_diffRule (borrow : Bool) (dv sv : Byte) :
    subWith borrow dv sv = diffRule borrow.toNat dv sv := by
  have ht := diff9_toNat dv sv borrow
  have hres : (diff9 dv sv borrow).setWidth 8 =
      BitVec.ofInt 8 ((dv.toNat : Int) - sv.toNat - borrow.toNat) := by
    refine BitVec.eq_of_toNat_eq ?_
    rw [BitVec.toNat_setWidth, BitVec.toNat_ofInt]
    omega
  have hc : 256 ≤ (diff9 dv sv borrow).toNat ↔ dv.toNat < sv.toNat + borrow.toNat := by
    have := borrow.toNat_le
    omega
  simp only [subWith, diffRule, flagsOf_eq, subOverflow_eq, hres, getLsbD_eight, hc]

theorem sub_one_eq_ofNat (dv : Byte) : dv - 1 = BitVec.ofNat 8 (dv.toNat + 255) := by
  bv_omega

theorem add_one_eq_ofNat (dv : Byte) : dv + 1 = BitVec.ofNat 8 (dv.toNat + 1) := by
  bv_omega

/-! ### Results and flags of the rules -/

theorem sumRule_toNat (carry : Nat) (dv sv : Byte) :
    (sumRule carry dv sv).1.toNat = (dv.toNat + sv.toNat + carry) % 256 :=
  BitVec.toNat_ofNat _ _

theorem diffRule_toNat (borrow : Nat) (dv sv : Byte) :
    ((diffRule borrow dv sv).1.toNat : Int) = ((dv.toNat : Int) - sv.toNat - borrow) % 256 := by
  rw [diffRule, BitVec.toNat_ofInt]
  omega

/-- V of an addition: the exact signed sum is out of range (R160 (c)). -/
theorem sumRule_v {carry : Nat} (hc : carry ≤ 1) (dv sv : Byte) :
    (sumRule carry dv sv).2.v = decide (dv.toInt + sv.toInt + carry < -128 ∨
      127 < dv.toInt + sv.toInt + carry) := by
  have hres := sumRule_toNat carry dv sv
  have hv : (sumRule carry dv sv).2.v = decide (dv.getLsbD 7 = sv.getLsbD 7 ∧
      (sumRule carry dv sv).1.getLsbD 7 ≠ dv.getLsbD 7) := rfl
  rw [hv, decide_eq_decide]
  simp only [getLsbD_seven, decide_eq_decide, ne_eq, byte_toInt]
  omega

/-- V of a subtraction: the exact signed difference is out of range (R160 (c)). -/
theorem diffRule_v {borrow : Nat} (hb : borrow ≤ 1) (dv sv : Byte) :
    (diffRule borrow dv sv).2.v = decide (dv.toInt - sv.toInt - borrow < -128 ∨
      127 < dv.toInt - sv.toInt - borrow) := by
  have hres := diffRule_toNat borrow dv sv
  have hv : (diffRule borrow dv sv).2.v = decide (dv.getLsbD 7 ≠ sv.getLsbD 7 ∧
      (diffRule borrow dv sv).1.getLsbD 7 = sv.getLsbD 7) := rfl
  rw [hv, decide_eq_decide]
  simp only [getLsbD_seven, decide_eq_decide, ne_eq, byte_toInt]
  omega

/-- 7FH is the one byte whose successor is above +127. -/
theorem eq_7F_iff (dv : Byte) : dv = 0x7F ↔ 127 < dv.toInt + 1 := by
  rw [← BitVec.toInt_inj, byte_toInt dv, show (0x7F : Byte).toInt = 127 from rfl]
  omega

/-- 80H is the one byte whose predecessor is below -128. -/
theorem eq_80_iff (dv : Byte) : dv = 0x80 ↔ dv.toInt - 1 < -128 := by
  rw [← BitVec.toInt_inj, byte_toInt dv, show (0x80 : Byte).toInt = -128 from rfl]
  omega

/-! ### The flags after a comparison -/

/-- Z after a comparison (R168 (a)). -/
theorem diffRule_z (a b : Byte) : (diffRule 0 a b).2.z = true ↔ a = b := by
  have hres := diffRule_toNat 0 a b
  have hz : (diffRule 0 a b).2.z = decide ((diffRule 0 a b).1 = 0) := rfl
  rw [hz, decide_eq_true_iff, ← BitVec.toNat_inj, ← BitVec.toNat_inj,
    show (0 : Byte).toNat = 0 from rfl]
  omega

/-- S xor V after a comparison (R168 (a)): S is the sign of the exact difference where that is in
range, and its opposite where it is not. -/
theorem diffRule_s_ne_v (a b : Byte) :
    (diffRule 0 a b).2.s ≠ (diffRule 0 a b).2.v ↔ a.toInt < b.toInt := by
  have hres := diffRule_toNat 0 a b
  have hs : (diffRule 0 a b).2.s = (diffRule 0 a b).1.getLsbD 7 := rfl
  rw [hs, getLsbD_seven, diffRule_v zero_le_one, ne_eq, decide_eq_decide, byte_toInt, byte_toInt]
  omega

/-- The complement of a condition holds where what the condition says does not. -/
theorem holds_complement_iff {f : Czsv} {p : Prop} (cc : Cond) (h : f.holds cc ↔ p) :
    f.holds (complement cc) ↔ ¬p := by
  rw [holds_complement, Bool.not_eq_true', ← h, Bool.not_eq_true]

/-! ### Words byte by byte -/

/-- C of an addition as a number. -/
theorem sumRule_carry {carry : Nat} (hc : carry ≤ 1) (dv sv : Byte) :
    (sumRule carry dv sv).2.c.toNat = (dv.toNat + sv.toNat + carry) / 256 := by
  by_cases h : 256 ≤ dv.toNat + sv.toNat + carry
  · rw [sumRule, decide_eq_true h, Bool.toNat_true]
    omega
  · rw [sumRule, decide_eq_false h, Bool.toNat_false]
    omega

/-- C of a subtraction as a number. -/
theorem diffRule_borrow {borrow : Nat} (hb : borrow ≤ 1) (dv sv : Byte) :
    ((diffRule borrow dv sv).2.c.toNat : Int) =
      -(((dv.toNat : Int) - sv.toNat - borrow) / 256) := by
  by_cases h : dv.toNat < sv.toNat + borrow
  · rw [diffRule, decide_eq_true h, Bool.toNat_true]
    omega
  · rw [diffRule, decide_eq_false h, Bool.toNat_false]
    omega

/-- The sum of two words byte by byte, through the carry (R168 (b)). -/
theorem sumRule_lo_hi (a b : Word) :
    let lo := sumRule 0 (loByte a) (loByte b)
    let hi := sumRule lo.2.c.toNat (hiByte a) (hiByte b)
    wordOf hi.1 lo.1 = a + b ∧ hi.2.c = decide (65536 ≤ a.toNat + b.toNat) := by
  intro lo hi
  have hcarry : lo.2.c.toNat = (a.toNat % 256 + b.toNat % 256) / 256 := by
    rw [sumRule_carry zero_le_one, loByte_toNat, loByte_toNat, add_zero]
  have hc : hi.2.c = decide (256 ≤ (hiByte a).toNat + (hiByte b).toNat + lo.2.c.toNat) := rfl
  constructor
  · apply BitVec.eq_of_toNat_eq
    rw [wordOf_toNat, sumRule_toNat, sumRule_toNat, hcarry, BitVec.toNat_add, hiByte_toNat,
      hiByte_toNat, loByte_toNat, loByte_toNat]
    omega
  · rw [hc, decide_eq_decide, hcarry, hiByte_toNat, hiByte_toNat]
    omega

/-- The difference of two words byte by byte, through the borrow (R168 (b)). -/
theorem diffRule_lo_hi (a b : Word) :
    let lo := diffRule 0 (loByte a) (loByte b)
    let hi := diffRule lo.2.c.toNat (hiByte a) (hiByte b)
    wordOf hi.1 lo.1 = a - b ∧ hi.2.c = decide (a.toNat < b.toNat) := by
  intro lo hi
  have hlo : (lo.1.toNat : Int) = _ := diffRule_toNat 0 (loByte a) (loByte b)
  have hborrow : (lo.2.c.toNat : Int) = _ := diffRule_borrow zero_le_one (loByte a) (loByte b)
  have hhi : (hi.1.toNat : Int) = _ := diffRule_toNat lo.2.c.toNat (hiByte a) (hiByte b)
  have hc : hi.2.c = decide ((hiByte a).toNat < (hiByte b).toNat + lo.2.c.toNat) := rfl
  rw [loByte_toNat, loByte_toNat] at hlo hborrow
  rw [hiByte_toNat, hiByte_toNat] at hhi hc
  constructor
  · apply BitVec.eq_of_toNat_eq
    rw [wordOf_toNat, BitVec.toNat_sub]
    omega
  · rw [hc, decide_eq_decide]
    omega

end Sys2Proof.Machine
end

section
/-! The arithmetic instructions (41_arithmetic.md R160 to R168): how the forms of R111 and R112
complete, and the statements about them. -/

namespace Sys2Proof.Machine

/-! ### How the forms of R111 and R112 complete -/

/-- A result stored where a write reaches and that is not FLAGS (R160 (d)). -/
theorem storeResult_completes {len : Nat} {a : Byte} {out : Alu} {s : State}
    (hw : writeRefusal a out.1 = none) (ha : a ≠ flagsAddr) :
    storeResult len a out s = .next (((storeReg a out.1 s).setFlags out.2).advance len) := by
  rw [storeResult, andThen_writeReg hw, flagsAfterStore, if_neg ha]

theorem twoStore_completes {i : Instr} {op : Czsv → Byte → Byte → Alu} {len : Nat} {d : Operand}
    {o : Source} {s : State} (hi : exec i s = twoStore op len d o s) :
    CompletesWithResult i len s (fetchTwo d o s)
      (op s.czsv (fetchTwo d o s).dv (fetchTwo d o s).sv) :=
  fun hw ha => hi.trans (storeResult_completes hw ha)

theorem oneStore_completes {i : Instr} {op : Czsv → Byte → Alu} {len : Nat} {d : Operand}
    {s : State} (hi : exec i s = oneStore op len d s) :
    CompletesWithResult i len s (fetchOne d s) (op s.czsv (fetchOne d s).dv) :=
  fun hw ha => hi.trans (storeResult_completes hw ha)

section
variable {rr rIr : WReg → WReg → Instr} {RR RIR RIM : Byte → Byte → Instr} {R IR : Byte → Instr}

/-- The five forms of R111 decode from the bytes that they encode to. -/
theorem twoOperandEncodings {h : BitVec 4}
    (hrr : ∀ d r, encode (rr d r) = [nibbles h 2, nibbles d r] ∧ (rr d r).wellFormed = true :=
      by intros; exact ⟨rfl, rfl⟩)
    (hrIr : ∀ d r, encode (rIr d r) = [nibbles h 3, nibbles d r] ∧ (rIr d r).wellFormed = true :=
      by intros; exact ⟨rfl, rfl⟩)
    (hRR : ∀ d r, encode (RR d r) = [nibbles h 4, r, d] ∧ (RR d r).wellFormed = true :=
      by intros; exact ⟨rfl, rfl⟩)
    (hRIR : ∀ d r, encode (RIR d r) = [nibbles h 5, r, d] ∧ (RIR d r).wellFormed = true :=
      by intros; exact ⟨rfl, rfl⟩)
    (hRIM : ∀ d v, encode (RIM d v) = [nibbles h 6, d, v] ∧ (RIM d v).wellFormed = true :=
      by intros; exact ⟨rfl, rfl⟩) :
    TwoOperandEncodings h rr rIr RR RIR RIM :=
  ⟨fun d r => decode_of_encode_eq (hrr d r).1 (hrr d r).2,
    fun d r => decode_of_encode_eq (hrIr d r).1 (hrIr d r).2,
    fun d r => decode_of_encode_eq (hRR d r).1 (hRR d r).2,
    fun d r => decode_of_encode_eq (hRIR d r).1 (hRIR d r).2,
    fun d v => decode_of_encode_eq (hRIM d v).1 (hRIM d v).2⟩

/-- The two forms of R112 decode from the bytes that they encode to. -/
theorem oneOperandEncodings {h : BitVec 4}
    (hR : ∀ a, encode (R a) = [nibbles h 0, a] ∧ (R a).wellFormed = true :=
      by intros; exact ⟨rfl, rfl⟩)
    (hIR : ∀ a, encode (IR a) = [nibbles h 1, a] ∧ (IR a).wellFormed = true :=
      by intros; exact ⟨rfl, rfl⟩) :
    OneOperandEncodings h R IR :=
  ⟨fun a => decode_of_encode_eq (hR a).1 (hR a).2,
    fun a => decode_of_encode_eq (hIR a).1 (hIR a).2⟩

/-- The two-operand instructions that store: where the operation is the rule, each form that is
`twoStore` of the operation completes with the rule's result. -/
theorem twoOperandResults {op rule : Czsv → Byte → Byte → Alu} {s : State}
    (hrule : ∀ f dv sv, op f dv sv = rule f dv sv)
    (hrr : ∀ d r, exec (rr d r) s = twoStore op 2 (.r d) (.place (.r r)) s := by intros; rfl)
    (hrIr : ∀ d r, exec (rIr d r) s = twoStore op 2 (.r d) (.place (.ir r)) s := by intros; rfl)
    (hRR : ∀ d r, exec (RR d r) s = twoStore op 3 (.reg d) (.place (.reg r)) s := by intros; rfl)
    (hRIR : ∀ d r, exec (RIR d r) s = twoStore op 3 (.reg d) (.place (.ireg r)) s := by intros; rfl)
    (hRIM : ∀ d v, exec (RIM d v) s = twoStore op 3 (.reg d) (.imm v) s := by intros; rfl) :
    TwoOperandResults rr rIr RR RIR RIM rule s := by
  obtain rfl : op = rule := funext fun f => funext fun dv => funext (hrule f dv)
  exact ⟨fun d r => twoStore_completes (hrr d r), fun d r => twoStore_completes (hrIr d r),
    fun d r => twoStore_completes (hRR d r), fun d r => twoStore_completes (hRIR d r),
    fun d v => twoStore_completes (hRIM d v)⟩

/-- The two-operand instructions that only set flags: each form is `twoTest` of the operation. -/
theorem twoOperandFlags {op rule : Czsv → Byte → Byte → Alu} {s : State}
    (hrule : ∀ f dv sv, op f dv sv = rule f dv sv)
    (hrr : ∀ d r, exec (rr d r) s = twoTest op 2 (.r d) (.place (.r r)) s := by intros; rfl)
    (hrIr : ∀ d r, exec (rIr d r) s = twoTest op 2 (.r d) (.place (.ir r)) s := by intros; rfl)
    (hRR : ∀ d r, exec (RR d r) s = twoTest op 3 (.reg d) (.place (.reg r)) s := by intros; rfl)
    (hRIR : ∀ d r, exec (RIR d r) s = twoTest op 3 (.reg d) (.place (.ireg r)) s := by intros; rfl)
    (hRIM : ∀ d v, exec (RIM d v) s = twoTest op 3 (.reg d) (.imm v) s := by intros; rfl) :
    TwoOperandFlags rr rIr RR RIR RIM rule s := by
  obtain rfl : op = rule := funext fun f => funext fun dv => funext (hrule f dv)
  exact ⟨hrr, hrIr, hRR, hRIR, hRIM⟩

/-- The one-operand instructions that store: each form is `oneStore` of the operation. -/
theorem oneOperandResults {op rule : Czsv → Byte → Alu} {s : State}
    (hrule : ∀ f dv, op f dv = rule f dv)
    (hR : ∀ a, exec (R a) s = oneStore op 2 (.reg a) s := by intros; rfl)
    (hIR : ∀ a, exec (IR a) s = oneStore op 2 (.ireg a) s := by intros; rfl) :
    OneOperandResults R IR rule s := by
  obtain rfl : op = rule := funext fun f => funext (hrule f)
  exact ⟨fun a => oneStore_completes (hR a), fun a => oneStore_completes (hIR a)⟩

end

/-! ### The obligations -/

/-- Settles O20: each operation is its rule, and V of a rule is the range of the exact result. -/
theorem arithmeticFlagsMeaning : Obligations.ArithmeticFlagsMeaning := by
  refine fun f dv sv => ⟨?adc, ?add, ?sbc, ?sub, ?inc, ?dec⟩
  case adc =>
    rw [aluAdc, addWith_eq_sumRule]
    exact ⟨rfl, sumRule_v f.c.toNat_le dv sv, rfl, rfl⟩
  case add =>
    rw [aluAdd, addWith_eq_sumRule]
    exact ⟨rfl, by simpa using sumRule_v zero_le_one dv sv, rfl, rfl⟩
  case sbc =>
    rw [aluSbc, subWith_eq_diffRule]
    exact ⟨rfl, diffRule_v f.c.toNat_le dv sv, rfl, rfl⟩
  case sub =>
    rw [aluSub, subWith_eq_diffRule]
    exact ⟨rfl, by simpa using diffRule_v zero_le_one dv sv, rfl, rfl⟩
  case inc => exact ⟨rfl, decide_eq_decide.mpr (eq_7F_iff dv), rfl, rfl⟩
  case dec => exact ⟨rfl, decide_eq_decide.mpr (eq_80_iff dv), rfl, rfl⟩

/-- Settles O21: every form stores the sum with the carry in, or with none. -/
theorem adcAndAdd : Obligations.AdcAndAdd :=
  ⟨twoOperandEncodings, twoOperandEncodings, fun _ =>
    ⟨twoOperandResults (op := aluAdc) fun f => addWith_eq_sumRule f.c,
      twoOperandResults (op := aluAdd) fun _ => addWith_eq_sumRule false⟩⟩

/-- Settles O22: every form stores the difference with the borrow in, or with none. -/
theorem sbcAndSub : Obligations.SbcAndSub :=
  ⟨twoOperandEncodings, twoOperandEncodings, fun _ =>
    ⟨twoOperandResults (op := aluSbc) fun f => subWith_eq_diffRule f.c,
      twoOperandResults (op := aluSub) fun _ => subWith_eq_diffRule false⟩⟩

/-- Settles O23: every form sets the flags of the difference without a borrow in. -/
theorem compareOnlySetsFlags : Obligations.CompareOnlySetsFlags :=
  ⟨twoOperandEncodings, fun _ =>
    twoOperandFlags (op := aluCp) fun _ => subWith_eq_diffRule false⟩

/-- Settles O30: C, Z and S xor V after CP are `<` unsigned, `=` and `<` signed; the other
conditions are made of these. -/
theorem compareConditions : Obligations.CompareConditions := by
  intro f a b g
  have hg : g = (diffRule 0 a b).2 := congrArg Prod.snd (subWith_eq_diffRule false a b)
  have hc : g.holds .c ↔ a.toNat < b.toNat := hg ▸ decide_eq_true_iff
  have hz : g.holds .z ↔ a = b := hg ▸ diffRule_z a b
  have hlt : g.holds .lt ↔ a.toInt < b.toInt := by rw [holds_lt, hg, diffRule_s_ne_v]
  have hule : g.holds .ule ↔ a.toNat ≤ b.toNat := by
    rw [Nat.le_iff_lt_or_eq, BitVec.toNat_inj, ← hc, ← hz]
    exact holds_ule g
  have hle : g.holds .le ↔ a.toInt ≤ b.toInt := by
    rw [Int.le_iff_eq_or_lt, BitVec.toInt_inj, ← hz, ← hlt, holds_lt]
    exact holds_le g
  exact ⟨hc, (holds_complement_iff .c hc).trans not_lt, hule,
    (holds_complement_iff .ule hule).trans not_le, hz, holds_complement_iff .z hz, hlt,
    (holds_complement_iff .lt hlt).trans not_lt, hle, (holds_complement_iff .le hle).trans not_le⟩

/-- Settles O31: the carry of the low bytes comes through INC to the high bytes. -/
theorem multiByteArithmetic : Obligations.MultiByteArithmetic := by
  refine fun f a b p => ⟨?sum, ?difference⟩
  case sum =>
    simp only [aluAdd, aluAdc, aluInc, flagsOf_eq, addWith_eq_sumRule]
    exact sumRule_lo_hi a b
  case difference =>
    simp only [aluSub, aluSbc, aluDec, flagsOf_eq, subWith_eq_diffRule]
    exact diffRule_lo_hi a b

/-- Settles O24: both forms store one less. -/
theorem decrementResult : Obligations.DecrementResult :=
  ⟨oneOperandEncodings, fun _ => oneOperandResults (op := aluDec) fun f dv => by
    rw [aluDec, sub_one_eq_ofNat]; rfl⟩

/-- Settles O25: the three forms store one more; the form `r` is one byte long. -/
theorem incrementResult : Obligations.IncrementResult := by
  unfold Obligations.IncrementResult
  intro rule
  have hrule : aluInc = rule := by
    funext f dv
    rw [aluInc, add_one_eq_ofNat]
    rfl
  refine ⟨oneOperandEncodings, fun _ => decode_of_encode_eq, fun s =>
    ⟨oneOperandResults fun f dv => congrFun (congrFun hrule f) dv, fun r => ?_⟩⟩
  rw [← hrule]
  exact oneStore_completes rfl

end Sys2Proof.Machine
end

section
/-! The logic instructions (42_logic.md R180 to R183): the operations are the rule of the flags
applied to the result, and the statement about their forms. -/

namespace Sys2Proof.Machine

/-- V cleared, Z and S of the result, C as it was (R180 to R183). -/
theorem logicResult_eq_logicRule (f : Czsv) (res : Byte) : logicResult f res = logicRule f res :=
  rfl

/-- The complement in whole numbers (R181). -/
theorem not_eq_ofNat (dv : Byte) : ~~~dv = BitVec.ofNat 8 (255 - dv.toNat) := by
  bv_omega

theorem aluCom_eq_logicRule (f : Czsv) (dv : Byte) :
    aluCom f dv = logicRule f (BitVec.ofNat 8 (255 - dv.toNat)) := by
  rw [aluCom, logicResult_eq_logicRule, not_eq_ofNat]

/-- Settles O26: every form stores the bitwise result, with the flags that the rule gives it. -/
theorem logicOperations : Obligations.LogicOperations :=
  ⟨twoOperandEncodings, twoOperandEncodings, twoOperandEncodings, oneOperandEncodings, fun _ =>
    ⟨twoOperandResults (op := aluAnd) fun f dv sv => logicResult_eq_logicRule f (dv &&& sv),
      twoOperandResults (op := aluOr) fun f dv sv => logicResult_eq_logicRule f (dv ||| sv),
      twoOperandResults (op := aluXor) fun f dv sv => logicResult_eq_logicRule f (dv ^^^ sv),
      oneOperandResults aluCom_eq_logicRule⟩⟩

end Sys2Proof.Machine
end

section
/-! Program control (43_program_control.md R190 to R194): where a transfer goes, what a call leaves
on the stack and where it is refused, and what the returns pop. -/

namespace Sys2Proof.Machine

/-! ### Targets -/

/-- A direct address, high byte first (D3), is the word of its two bytes. -/
theorem ofNat_eq_wordOf (hi lo : Byte) :
    BitVec.ofNat 16 (hi.toNat * 256 + lo.toNat) = wordOf hi lo := by
  rw [← wordOf_toNat, BitVec.ofNat_toNat, BitVec.setWidth_eq]

/-- The target of JR is relative to the next instruction (D12), modulo 65536 (D13). -/
theorem npc_two_add_sext16 (off : Byte) (s : State) :
    s.npc 2 + sext16 off = BitVec.ofInt 16 (s.pc.toNat + 2 + off.toInt) := by
  rw [BitVec.ofInt_add, BitVec.ofInt_add, BitVec.ofInt_natCast, BitVec.ofNat_toNat,
    BitVec.setWidth_eq]
  rfl

/-- A conditional transfer changes the pc only. -/
theorem jumpIf_eq (len : Nat) (cc : Cond) (target : Word) (s : State) :
    jumpIf len cc target s =
      .next { s with pc := if s.czsv.holds cc then target else s.npc len } := by
  unfold jumpIf
  split <;> rfl

section
variable {a : Byte} {s : State} {k : Word → State → Host.Outcome State Fault Refusal}

theorem withTargetPair_odd (h : a.getLsbD 0 = true) :
    withTargetPair a s k = .refused (.oddRegisterPair a) :=
  if_pos h

theorem withTargetPair_even (h : a.getLsbD 0 = false) :
    withTargetPair a s k = k (readPair a s).1 (readPair a s).2 :=
  if_neg (by rw [h]; exact Bool.false_ne_true)

theorem exec_jp_IRR : exec (.jp_IRR a) s = withTargetPair a s fun w t => .next (t.goto w) := rfl

theorem exec_call_IRR : exec (.call_IRR a) s = withTargetPair a s fun w t => callTo 2 w t := rfl

end

/-- Settles O40: the conditional transfers are `jumpIf`, and reading the pair only draws
free values. -/
theorem jumps : Obligations.Jumps := by
  refine ⟨fun cc hi lo => ?_, fun cc off => decode_of_encode_eq (by simp [encode]),
    fun a => decode_of_encode_eq, fun s => ⟨fun cc da => jumpIf_eq 3 cc da s,
    fun cc off => ?_, fun a => ⟨fun ha => ?_, fun ha => ?_⟩⟩⟩
  · rw [ofNat_eq_wordOf]
    exact decode_of_encode_eq (by simp [encode])
  · rw [← npc_two_add_sext16 off s]
    exact jumpIf_eq 2 cc _ s
  · obtain ⟨k, hk⟩ := readPair_snd a s
    refine ⟨k, ?_⟩
    rw [exec_jp_IRR, withTargetPair_even ha, hk]
    rfl
  · rw [exec_jp_IRR, withTargetPair_odd ha]

/-! ### Calls -/

section
variable {len : Nat} {target : Word} {s : State}

/-- A call neither of whose pushes is refused completes: the pc goes to the target (R190). -/
theorem callTo_completes
    (hlo : writeRefusal (s.sp - 1) (loByte (s.npc len)) = none)
    (hhi : writeRefusal ((storeReg (s.sp - 1) (loByte (s.npc len)) (s.setSp (s.sp - 1))).sp - 1)
      (hiByte (s.npc len)) = none) :
    let v := storeReg (s.sp - 1) (loByte (s.npc len)) (s.setSp (s.sp - 1))
    callTo len target s = .next
      ((storeReg (v.sp - 1) (hiByte (s.npc len)) (v.setSp (v.sp - 1))).goto target) :=
  callTo_eq_next.mpr ⟨_, pushWord_eq_next.mpr ⟨_, ⟨hlo, rfl⟩, hhi, rfl⟩, rfl⟩

/-- A call whose first push is refused. -/
theorem callTo_refused_lo {r : Refusal}
    (h : writeRefusal (s.sp - 1) (loByte (s.npc len)) = some r) :
    callTo len target s = .refused r := by
  rw [callTo, pushWord, push, andThen_writeReg_refused h, andThen_refused]

/-- A call whose second push is refused. -/
theorem callTo_refused_hi {r : Refusal}
    (hlo : writeRefusal (s.sp - 1) (loByte (s.npc len)) = none)
    (hhi : writeRefusal ((storeReg (s.sp - 1) (loByte (s.npc len)) (s.setSp (s.sp - 1))).sp - 1)
      (hiByte (s.npc len)) = some r) :
    callTo len target s = .refused r := by
  rw [callTo, pushWord, push, andThen_writeReg hlo]
  exact andThen_writeReg_refused hhi _

/-- The general-purpose bytes after a word is pushed there: its high byte at the new SP, its low
byte above it (R57 (c)). -/
def pushedRam (w : Word) (s : State) : Memory :=
  cellWrite ramDefault (cellWrite ramDefault s.ram (s.sp - 1).toNat (loByte w))
    (s.sp - 2).toNat (hiByte w)

theorem cellRead_pushedRam_hi (w : Word) (h1 : (s.sp - 1).toNat < 0xD0)
    (hwf : Memory.wf ramDefault ramSize s.ram) :
    cellRead ramDefault (pushedRam w s) (s.sp - 2).toNat = hiByte w :=
  cellRead_write_same _ _ _ _ (wf_cellWrite _ hwf h1).1

theorem cellRead_pushedRam_lo (w : Word) (hwf : Memory.wf ramDefault ramSize s.ram) :
    cellRead ramDefault (pushedRam w s) (s.sp - 1).toNat = loByte w :=
  (cellRead_write_other _ _ _ (by bv_omega)).trans (cellRead_write_same _ _ _ _ hwf.1)

theorem cellRead_pushedRam_other (w : Word) {b : Byte} (h1 : b ≠ s.sp - 1) (h2 : b ≠ s.sp - 2) :
    cellRead ramDefault (pushedRam w s) b.toNat = cellRead ramDefault s.ram b.toNat :=
  (cellRead_write_other _ _ _ (BitVec.toNat_ne.mp h2)).trans
    (cellRead_write_other _ _ _ (BitVec.toNat_ne.mp h1))

/-- A call with the stack in the general-purpose bytes always completes. -/
theorem callTo_ram (h1 : (s.sp - 1).toNat < 0xD0) (h2 : (s.sp - 2).toNat < 0xD0) :
    callTo len target s =
      .next (((s.setSp (s.sp - 2)).setRam (pushedRam (s.npc len) s)).goto target) :=
  callTo_eq_next.mpr ⟨_, pushWord_ram h1 h2, rfl⟩

/-- Both forms of CALL are `callTo` of their target, IRR after the read of the pair, which only
draws free values (D31). -/
theorem exec_call {i : Instr} {u : State}
    (h : (i = .call_DA target ∧ len = 3 ∧ u = s) ∨
      (∃ a, i = .call_IRR a ∧ len = 2 ∧ a.getLsbD 0 = false ∧ (target, u) = readPair a s)) :
    exec i s = callTo len target u ∧ ∃ k, u = s.drawMore k := by
  rcases h with ⟨rfl, rfl, rfl⟩ | ⟨a, rfl, rfl, ha, hpair⟩
  · exact ⟨rfl, 0, rfl⟩
  · obtain ⟨k, hk⟩ := readPair_snd a s
    rw [← hpair] at hk
    exact ⟨by rw [exec_call_IRR, withTargetPair_even ha, ← hpair], k, hk⟩

end

/-- Settles O41: both forms are `callTo`, which stops at the first push refused; a word pushed into
the general-purpose bytes is read back there. -/
theorem calls : Obligations.Calls := by
  refine ⟨fun hi lo => ?_, fun a => decode_of_encode_eq, fun s a ha => ?_,
    fun s u i len target hcall => ?_⟩
  · rw [ofNat_eq_wordOf]
    exact decode_of_encode_eq (by simp [encode])
  · rw [exec_call_IRR, withTargetPair_odd ha]
  · obtain ⟨hexec, k, rfl⟩ := exec_call hcall
    rw [hexec]
    refine ⟨callTo_completes (s := s.drawMore k), fun _ => callTo_refused_lo (s := s.drawMore k),
      fun _ => callTo_refused_hi (s := s.drawMore k), fun h1 h2 hwf => ?_⟩
    have hsp : s.sp - 2 + 1 = s.sp - 1 := by bv_omega
    refine ⟨_, callTo_ram h1 h2, rfl, rfl, ?atSp, ?aboveSp, fun b hb hb1 hb2 => ?other, rfl⟩
    case atSp => exact (peek_ram h2 _).trans (cellRead_pushedRam_hi _ h1 hwf)
    case aboveSp =>
      rw [goto_sp, setRam_sp, setSp_sp, drawMore_sp, hsp]
      exact (peek_ram h1 _).trans (cellRead_pushedRam_lo _ hwf)
    case other =>
      rw [peek_ram hb, peek_ram hb]
      exact cellRead_pushedRam_other _ hb1 hb2

/-! ### Returns -/

/-- What `pop` reads and leaves, in the terms of R61. -/
theorem pop_eq_afterRead (s : State) :
    pop s = (peek s.sp s, (afterRead s.sp s).setSp (s.sp + 1)) := by
  rw [pop_eq, afterRead_eq]

/-- Where two pops, the high byte first, send the pc, and the SP they leave (R194). -/
theorem popWord_goto (s : State) :
    let v := (afterRead s.sp s).setSp (s.sp + 1)
    (popWord s).2.goto (popWord s).1 =
      { afterRead v.sp v with sp := v.sp + 1, pc := wordOf (peek s.sp s) (peek v.sp v) } := by
  intro v
  simp only [popWord, pop_eq_afterRead]
  rfl

/-- Settles O42: RET is two pops. -/
theorem returnPopsPc : Obligations.ReturnPopsPc := by
  refine ⟨decode_of_encode_eq, fun s => ?_⟩
  have hsp : s.sp + 2 = s.sp + 1 + 1 := by bv_omega
  rw [hsp]
  exact congrArg Host.Outcome.next (popWord_goto s)

/-- Settles O43: IRET is a pop into FLAGS, which accepts every byte, and two more pops. -/
theorem iretPopsFlagsAndPc : Obligations.IretPopsFlagsAndPc := by
  refine ⟨decode_of_encode_eq, fun s => (interruptReturn_eq s).trans ?_⟩
  rw [pop_eq_afterRead]
  exact congrArg (fun t => Host.Outcome.next (State.setGie true t)) (popWord_goto _)

end Sys2Proof.Machine
end

section
/-! The bit tests (44_bit_test.md R205, R206): what Z says of the bits that the mask selects, and the
statement about the forms of TCM and TM. -/

namespace Sys2Proof.Machine

/-- A logic result is 0 if and only if none of its bits is 1. -/
theorem logicRule_z_iff (f : Czsv) (res : Byte) :
    (logicRule f res).2.z = true ↔ ∀ n < 8, res.getLsbD n = false := by
  have hz : (logicRule f res).2.z = true ↔ res = 0 := decide_eq_true_iff
  rw [hz]
  constructor
  · rintro rfl n -
    exact BitVec.getLsbD_zero
  · exact fun h => BitVec.eq_of_getLsbD_eq fun n hn => (h n hn).trans BitVec.getLsbD_zero.symm

/-- Z of a masked value says that every bit that the mask selects is 0 (R206). -/
theorem logicRule_and_z_iff (f : Czsv) (x sv : Byte) :
    (logicRule f (x &&& sv)).2.z = true ↔
      ∀ n < 8, sv.getLsbD n = true → x.getLsbD n = false := by
  rw [logicRule_z_iff]
  refine forall₂_congr fun n _ => ?_
  rw [BitVec.getLsbD_and, Bool.and_comm, Bool.and_eq_false_imp]

/-- Z of a masked complement says that every bit that the mask selects is 1 (R205). -/
theorem logicRule_not_and_z_iff (f : Czsv) (dv sv : Byte) :
    (logicRule f (~~~dv &&& sv)).2.z = true ↔
      ∀ n < 8, sv.getLsbD n = true → dv.getLsbD n = true := by
  rw [logicRule_and_z_iff]
  refine forall₂_congr fun n hn => ?_
  rw [BitVec.getLsbD_not, decide_eq_true hn, Bool.true_and, Bool.not_eq_false']

/-- Settles O27: every form only sets the flags of the masked value, and Z of that value is read bit
by bit. -/
theorem bitTests : Obligations.BitTests :=
  ⟨twoOperandEncodings, twoOperandEncodings,
    fun dv sv => ⟨logicRule_not_and_z_iff _ dv sv, logicRule_and_z_iff _ dv sv⟩, fun _ =>
    ⟨twoOperandFlags (op := aluTcm) fun f dv sv => logicResult_eq_logicRule f (~~~dv &&& sv),
      twoOperandFlags (op := aluTm) fun f dv sv => logicResult_eq_logicRule f (dv &&& sv)⟩⟩

end Sys2Proof.Machine
end

section
/-! The rotates and the shift (45_rotate_shift.md R210 to R214): the operations on bit vectors are
the rules in whole numbers, and the statement about their forms. -/

namespace Sys2Proof.Machine

/-! ### The bits that are shifted out -/

/-- Bit 0 of a byte says that the byte is odd. -/
theorem getLsbD_zero_eq (b : Byte) : b.getLsbD 0 = decide (b.toNat % 2 = 1) :=
  Nat.testBit_zero _

theorem getLsbD_zero_toNat (b : Byte) : (b.getLsbD 0).toNat = b.toNat % 2 := by
  rw [BitVec.getLsbD, Nat.toNat_testBit, pow_zero, Nat.div_one]

theorem getLsbD_seven_toNat (b : Byte) : (b.getLsbD 7).toNat = b.toNat / 128 := by
  rw [BitVec.getLsbD, Nat.toNat_testBit]
  omega

/-! ### The shifted byte in whole numbers -/

/-- Joining bit strings adds the upper one, moved up by the lower one's width. -/
theorem append_toNat {m n : Nat} (x : BitVec m) (y : BitVec n) :
    (x ++ y).toNat = x.toNat * 2 ^ n + y.toNat := by
  rw [BitVec.toNat_append, ← Nat.shiftLeft_add_eq_or_of_lt y.isLt, Nat.shiftLeft_eq]

/-- Moved up by one place, the byte is doubled modulo 256, and `low` counts 1 (R210, R211). -/
theorem shiftLeftIn_eq_ofNat (dv : Byte) (low : Bool) :
    shiftLeftIn dv low = BitVec.ofNat 8 (dv.toNat * 2 + low.toNat) := by
  have hlow := low.toNat_le
  apply BitVec.eq_of_toNat_eq
  rw [shiftLeftIn, append_toNat, BitVec.extractLsb'_toNat, Nat.shiftRight_zero, BitVec.toNat_ofBool,
    BitVec.toNat_ofNat]
  omega

/-- Moved down by one place, the byte is halved, and `high` counts 128 (R212, R213). -/
theorem shiftRightIn_eq_ofNat (high : Bool) (dv : Byte) :
    shiftRightIn high dv = BitVec.ofNat 8 (dv.toNat / 2 + 128 * high.toNat) := by
  have hhigh := high.toNat_le
  apply BitVec.eq_of_toNat_eq
  rw [shiftRightIn, append_toNat, BitVec.extractLsb'_toNat, Nat.shiftRight_one, BitVec.toNat_ofBool,
    BitVec.toNat_ofNat]
  omega

/-- Moved down with its sign kept, the byte is the floor of half its signed value (R214). -/
theorem shiftRightIn_sign_eq_ofInt (dv : Byte) :
    shiftRightIn (dv.getLsbD 7) dv = BitVec.ofInt 8 (dv.toInt / 2) := by
  apply BitVec.eq_of_toNat_eq
  rw [shiftRightIn_eq_ofNat, getLsbD_seven_toNat, BitVec.toNat_ofNat, BitVec.toNat_ofInt,
    byte_toInt]
  omega

/-! ### The operations -/

theorem rotateResult_eq_rotateRule (dv res : Byte) (out : Bool) :
    rotateResult dv res out = rotateRule dv res out := by
  have hv : (res.getLsbD 7 != dv.getLsbD 7) = decide (res.getLsbD 7 ≠ dv.getLsbD 7) := by
    rw [Bool.eq_iff_iff, bne_iff_ne, decide_eq_true_iff]
  rw [rotateResult, flagsOf_eq, hv, rotateRule]

/-- RL: bit 7 goes to C and to bit 0 (R210). -/
theorem aluRl_eq_rotateRule (f : Czsv) (dv : Byte) :
    aluRl f dv = rotateRule dv (BitVec.ofNat 8 (dv.toNat * 2 + dv.toNat / 128))
      (decide (128 ≤ dv.toNat)) := by
  rw [aluRl, rotateResult_eq_rotateRule, shiftLeftIn_eq_ofNat, getLsbD_seven_toNat, getLsbD_seven]

/-- RLC: bit 7 goes to C, and C as it was to bit 0 (R211). -/
theorem aluRlc_eq_rotateRule (f : Czsv) (dv : Byte) :
    aluRlc f dv = rotateRule dv (BitVec.ofNat 8 (dv.toNat * 2 + f.c.toNat))
      (decide (128 ≤ dv.toNat)) := by
  rw [aluRlc, rotateResult_eq_rotateRule, shiftLeftIn_eq_ofNat, getLsbD_seven]

/-- RR: bit 0 goes to C and to bit 7 (R212). -/
theorem aluRr_eq_rotateRule (f : Czsv) (dv : Byte) :
    aluRr f dv = rotateRule dv (BitVec.ofNat 8 (dv.toNat / 2 + 128 * (dv.toNat % 2)))
      (decide (dv.toNat % 2 = 1)) := by
  rw [aluRr, rotateResult_eq_rotateRule, shiftRightIn_eq_ofNat, getLsbD_zero_toNat, getLsbD_zero_eq]

/-- RRC: bit 0 goes to C, and C as it was to bit 7 (R213). -/
theorem aluRrc_eq_rotateRule (f : Czsv) (dv : Byte) :
    aluRrc f dv = rotateRule dv (BitVec.ofNat 8 (dv.toNat / 2 + 128 * f.c.toNat))
      (decide (dv.toNat % 2 = 1)) := by
  rw [aluRrc, rotateResult_eq_rotateRule, shiftRightIn_eq_ofNat, getLsbD_zero_eq]

/-- Settles O28: every form stores the byte moved by one place, with the flags of its rule. -/
theorem rotatesAndShift : Obligations.RotatesAndShift :=
  ⟨oneOperandEncodings, oneOperandEncodings, oneOperandEncodings, oneOperandEncodings,
    oneOperandEncodings, fun _ =>
    ⟨oneOperandResults aluRl_eq_rotateRule, oneOperandResults aluRlc_eq_rotateRule,
      oneOperandResults aluRr_eq_rotateRule, oneOperandResults aluRrc_eq_rotateRule,
      oneOperandResults (op := aluSra) fun f dv => by
        rw [aluSra, shiftRightIn_sign_eq_ofInt, flagsOf_eq, getLsbD_zero_eq]⟩⟩

end Sys2Proof.Machine
end

section
/-! The CPU control instructions (46_cpu_control.md R220 to R227): FLAGS after C is set, cleared or
complemented, and the statements about the carry, the interrupt enable and the power states. -/

namespace Sys2Proof.Machine

/-! ### The carry in FLAGS -/

/-- The bits of FLAGS that hold the four flags (R17). -/
theorem czsv_toByte_getLsbD (f : Czsv) :
    f.toByte.getLsbD 7 = f.c ∧ f.toByte.getLsbD 6 = f.z ∧ f.toByte.getLsbD 5 = f.s ∧
      f.toByte.getLsbD 4 = f.v :=
  Czsv.mk.inj (czsv_ofByte_toByte f)

theorem mixBits_getLsbD (m x y : Byte) {n : Nat} (hn : n < 8) :
    (mixBits m x y).getLsbD n = if m.getLsbD n then x.getLsbD n else y.getLsbD n := by
  simp only [mixBits, BitVec.getLsbD_or, BitVec.getLsbD_and, BitVec.getLsbD_not, hn]
  cases m.getLsbD n <;> simp

/-- Setting C stores the byte whose bit 7 is the new C and whose other bits are those of FLAGS. -/
theorem setFlags_carry_eq {s : State} {b : Bool} {y : Byte} (hc : y.getLsbD 7 = b)
    (hkept : ∀ n < 7, y.getLsbD n = s.flags.getLsbD n) :
    s.setFlags { s.czsv with c := b } = { s with flags := y } := by
  suffices hflags : mixBits 0xF0 { s.czsv with c := b }.toByte s.flags = y from
    congrArg (fun x => { s with flags := x }) hflags
  obtain ⟨h7, h6, h5, h4⟩ := czsv_toByte_getLsbD { s.czsv with c := b }
  refine BitVec.eq_of_getLsbD_eq fun n hn => ?_
  rw [mixBits_getLsbD _ _ _ hn]
  rcases Nat.lt_succ_iff_lt_or_eq.mp hn with hlow | rfl
  · rw [hkept n hlow]
    interval_cases n
    exacts [rfl, rfl, rfl, rfl, h4, h5, h6]
  · exact h7.trans hc.symm

/-- How an instruction of one byte that sets C to `b` completes. -/
theorem next_setFlags_carry {s : State} {b : Bool} {y : Byte} (hc : y.getLsbD 7 = b)
    (hkept : ∀ n < 7, y.getLsbD n = s.flags.getLsbD n) :
    (.next ((s.setFlags { s.czsv with c := b }).advance 1) : Host.Outcome State Fault Refusal) =
      .next { s with pc := s.pc + 1, flags := y } := by
  rw [setFlags_carry_eq hc hkept]
  rfl

/-- CCF complements bit 7 of FLAGS (R220). -/
theorem exec_ccf (s : State) :
    exec .ccf s = .next { s with pc := s.pc + 1, flags := s.flags ^^^ 0x80 } := by
  refine next_setFlags_carry (b := !s.flags.getLsbD 7) (by simp) fun n hn => ?_
  rw [BitVec.getLsbD_xor]
  interval_cases n <;> simp

/-- RCF clears bit 7 of FLAGS (R225). -/
theorem exec_rcf (s : State) :
    exec .rcf s = .next { s with pc := s.pc + 1, flags := s.flags &&& 0x7F } := by
  refine next_setFlags_carry (b := false) (by simp) fun n hn => ?_
  rw [BitVec.getLsbD_and]
  interval_cases n <;> simp

/-- SCF sets bit 7 of FLAGS (R226). -/
theorem exec_scf (s : State) :
    exec .scf s = .next { s with pc := s.pc + 1, flags := s.flags ||| 0x80 } := by
  refine next_setFlags_carry (b := true) (by simp) fun n hn => ?_
  rw [BitVec.getLsbD_or]
  interval_cases n <;> simp

/-- Settles O44: the three carry instructions change bit 7 of FLAGS, and NOP only moves the pc. -/
theorem carryAndNop : Obligations.CarryAndNop :=
  ⟨decode_of_encode_eq, decode_of_encode_eq, decode_of_encode_eq, decode_of_encode_eq,
    fun s => ⟨exec_ccf s, exec_rcf s, exec_scf s, rfl⟩⟩

/-! ### The interrupt enable -/

/-- Settles O45: DI and EI are `setGie`, whose mask is bit 2 of SYM. -/
theorem interruptEnables : Obligations.InterruptEnables :=
  ⟨decode_of_encode_eq, decode_of_encode_eq, fun _ => ⟨rfl, rfl⟩⟩

/-! ### The power states -/

/-- STOP enters its mode where STOPCON holds A5H, and else jumps to 0100H (R227, D20). -/
theorem exec_stop (s : State) :
    exec .stop s =
      .next (if s.stopcon = 0xA5 then (s.advance 1).setMode .stop else s.goto 0x0100) := rfl

/-- Settles O46: STOP by the key in STOPCON, and the oscillator of STOP mode by `ticks_stop`. -/
theorem idleAndStop : Obligations.IdleAndStop := by
  refine ⟨decode_of_encode_eq, decode_of_encode_eq, fun s =>
    ⟨rfl, fun hkey => ?keyed, fun hkey => ?unkeyed, fun n => ticks_stop n s⟩⟩
  case keyed => rw [exec_stop, if_pos hkey]; rfl
  case unkeyed => rw [exec_stop, if_neg hkey]; rfl

end Sys2Proof.Machine
end

section
/-! Interrupts (60_exceptions.md R230 to R238): the fetch of the instruction that a step runs, the
request line, the pending bits that no instruction sets, and the entry with IRET as its inverse. -/

namespace Sys2Proof.Machine

/-! ### What a step runs -/

/-- `n` bytes that all lie inside the ROM (R62). -/
theorem withProgBytes_in_range {n : Nat} {a : Word} {s : State}
    (h : ∀ k < n, (a + BitVec.ofNat 16 k).toNat < s.cfg.romSize)
    (f : List Byte → Host.Outcome State Fault Refusal) :
    withProgBytes n a s f = f (progBytes n a s) := by
  induction n generalizing a f with
  | zero => rfl
  | succ n ih =>
    have ha : a.toNat < s.cfg.romSize := by simpa using h 0 (Nat.succ_pos n)
    have hrest : ∀ k < n, (a + 1 + BitVec.ofNat 16 k).toNat < s.cfg.romSize := fun k hk => by
      rw [succ_add_ofNat]; exact h (k + 1) (Nat.succ_lt_succ hk)
    rw [withProgBytes, withProgByte_in_range ha, ih hrest]
    rfl

/-- Taking the environment's input leaves program memory. -/
theorem progBytes_dropInput (n : Nat) (a : Word) (s : State) :
    progBytes n a s.dropInput = progBytes n a s := by
  induction n generalizing a with
  | zero => rfl
  | succ n ih => rw [progBytes, ih]; rfl

/-- The length that the first byte fixes is that of the instruction whose bytes stand there. -/
theorem opLength_progByte {a : Word} {s : State} {i : Instr}
    (h : decode (progBytes i.length a s) = .instr i) :
    opLength (progByte a s) = some i.length := by
  obtain ⟨n, hn⟩ := Nat.exists_eq_add_of_lt i.length_pos
  rw [hn, Nat.zero_add] at h
  exact opLength_of_decode h

/-- The instruction whose bytes stand at the pc, inside the ROM, is the one fetched (R110). -/
theorem withInstr_of_decode {s : State} {i : Instr}
    (hin : ∀ k < i.length, (s.pc + BitVec.ofNat 16 k).toNat < s.cfg.romSize)
    (h : decode (progBytes i.length s.pc s) = .instr i)
    (f : Instr → Host.Outcome State Fault Refusal) : withInstr s f = f i := by
  have hpc : s.pc.toNat < s.cfg.romSize := by simpa using hin 0 i.length_pos
  simp only [withInstr, withProgByte_in_range hpc, opLength_progByte h, withProgBytes_in_range hin,
    h]

/-- Settles O8: the fetch gives the instruction that the bytes at the pc decode to. -/
theorem stepRunsDecodedInstruction : Obligations.StepRunsDecodedInstruction := by
  intro s i hs hin h
  rw [← progBytes_dropInput] at h
  rw [step_of_runsNext hs]
  exact withInstr_of_decode (s := s.dropInput) hin h _

/-- Settles O9: in RUN mode the entry stands before the instruction. -/
theorem stepTakesInterruptFirst : Obligations.StepTakesInterruptFirst := by
  intro s hmode hreset hgie hirq
  have hmode' : s.dropInput.mode = .run := hmode
  have hint : (s.dropInput.gie && s.dropInput.irq) = true :=
    Bool.and_eq_true_iff.mpr ⟨hgie, hirq⟩
  simp only [step, stepWith, hreset, hmode', stepRun, hint, if_true]
  rfl

/-! ### The request line -/

theorem irqExt_iff (s : State) :
    s.irqExt = true ↔ (s.ports.p0pnd.getLsbD 1 = true ∧ s.ports.p0pnd.getLsbD 0 = true) ∨
      (s.ports.p0pnd.getLsbD 3 = true ∧ s.ports.p0pnd.getLsbD 2 = true) := by
  simp only [State.irqExt, Bool.or_eq_true, Bool.and_eq_true]

theorem irq_iff (s : State) :
    s.irq = true ↔ (s.t0.con.getLsbD 1 = true ∧ s.t0.con.getLsbD 0 = true) ∨
      (s.pwm.con.getLsbD 1 = true ∧ s.pwm.con.getLsbD 0 = true) ∨ s.irqExt = true := by
  simp only [State.irq, Bool.or_eq_true, Bool.and_eq_true, or_assoc]

/-- Settles O50: the line is made of the bits of the four pairs, the external ones apart. -/
theorem interruptRequest : Obligations.InterruptRequest := fun s =>
  ⟨by rw [irq_iff, irqExt_iff], irqExt_iff s, rfl⟩

/-! ### Pending bits -/

/-- A change that sets no interrupt pending bit (R234 (c)). -/
structure NoNewPending (s t : State) : Prop where
  t0 : t.t0.con.getLsbD 0 = true → s.t0.con.getLsbD 0 = true
  pwm : t.pwm.con.getLsbD 0 = true → s.pwm.con.getLsbD 0 = true
  int0 : t.ports.p0pnd.getLsbD 0 = true → s.ports.p0pnd.getLsbD 0 = true
  int1 : t.ports.p0pnd.getLsbD 2 = true → s.ports.p0pnd.getLsbD 2 = true

theorem NoNewPending.refl (s : State) : NoNewPending s s := ⟨id, id, id, id⟩

theorem NoNewPending.trans {s t u : State} (h : NoNewPending s t) (h' : NoNewPending t u) :
    NoNewPending s u :=
  ⟨h.t0 ∘ h'.t0, h.pwm ∘ h'.pwm, h.int0 ∘ h'.int0, h.int1 ∘ h'.int1⟩

/-- A pending bit that a write leaves at 1 was 1 before it (R25, R37, R42). -/
theorem pending_of_writePending {keep pend old v : Byte} {i : Nat} (hk : keep.getLsbD i = false)
    (hp : pend.getLsbD i = true) (h : (writePending keep pend old v).getLsbD i = true) :
    old.getLsbD i = true := by
  rw [writePending_getLsbD hk hp, Bool.and_eq_true] at h
  exact h.1

theorem storeReg_noNewPending (a v : Byte) (s : State) : NoNewPending s (storeReg a v s) := by
  have same := NoNewPending.refl s
  cases hr : regAt a <;> simp only [storeReg, hr]
  case t0con => exact { same with t0 := pending_of_writePending (by decide) (by decide) }
  case pwmcon => exact { same with pwm := pending_of_writePending (by decide) (by decide) }
  case p0pnd =>
    exact { same with
      int0 := pending_of_writePending (by decide) (by decide)
      int1 := pending_of_writePending (by decide) (by decide) }
  all_goals exact { same with }

theorem BasicWrite.noNewPending {e : Effects} {s t : State} (w : BasicWrite e s t) :
    NoNewPending s t := by
  have same := NoNewPending.refl s
  cases w with
  | store => exact storeReg_noNewPending _ _ s
  | draw | goto | prog | data | flags | freeFlags | sp | gie | mode => exact { same with }

/-- Settles O49: no basic write of an instruction sets a pending bit. -/
theorem softwareNeverSetsPending : Obligations.SoftwareNeverSetsPending := by
  intro i s t h
  have k : NoNewPending s t :=
    (exec_writes h).invariant (fun _ _ w hs => hs.trans w.noNewPending) (.refl s)
  exact ⟨k.t0, k.pwm, k.int0, k.int1⟩

/-! ### The entry and the return -/

section
variable {s : State}

/-- The general-purpose bytes after an interrupt is taken with the stack there: FLAGS, with free
values in the bits that do not exist, below the pushed pc (R237). -/
def entryRam (s : State) : Memory :=
  cellWrite ramDefault (pushedRam s.pc s) (s.sp - 3).toNat (peek flagsAddr s)

theorem wf_pushedRam (w : Word) (h1 : (s.sp - 1).toNat < 0xD0) (h2 : (s.sp - 2).toNat < 0xD0)
    (hwf : Memory.wf ramDefault ramSize s.ram) :
    Memory.wf ramDefault ramSize (pushedRam w s) :=
  wf_cellWrite _ (wf_cellWrite _ hwf h1) h2

/-- FLAGS is at the new SP. -/
theorem cellRead_entryRam_flags (h1 : (s.sp - 1).toNat < 0xD0) (h2 : (s.sp - 2).toNat < 0xD0)
    (hwf : Memory.wf ramDefault ramSize s.ram) :
    cellRead ramDefault (entryRam s) (s.sp - 3).toNat = peek flagsAddr s :=
  cellRead_write_same _ _ _ _ (wf_pushedRam _ h1 h2 hwf).1

/-- Above FLAGS stands what the push of the pc left. -/
theorem cellRead_entryRam_pushed {b : Byte} (h : b ≠ s.sp - 3) :
    cellRead ramDefault (entryRam s) b.toNat = cellRead ramDefault (pushedRam s.pc s) b.toNat :=
  cellRead_write_other _ _ _ (BitVec.toNat_ne.mp h)

theorem cellRead_entryRam_pch (h1 : (s.sp - 1).toNat < 0xD0)
    (hwf : Memory.wf ramDefault ramSize s.ram) :
    cellRead ramDefault (entryRam s) (s.sp - 2).toNat = hiByte s.pc :=
  (cellRead_entryRam_pushed (by bv_omega)).trans (cellRead_pushedRam_hi _ h1 hwf)

theorem cellRead_entryRam_pcl (hwf : Memory.wf ramDefault ramSize s.ram) :
    cellRead ramDefault (entryRam s) (s.sp - 1).toNat = loByte s.pc :=
  (cellRead_entryRam_pushed (by bv_omega)).trans (cellRead_pushedRam_lo _ hwf)

theorem cellRead_entryRam_other {b : Byte} (h1 : b ≠ s.sp - 1) (h2 : b ≠ s.sp - 2)
    (h3 : b ≠ s.sp - 3) :
    cellRead ramDefault (entryRam s) b.toNat = cellRead ramDefault s.ram b.toNat :=
  (cellRead_entryRam_pushed h3).trans (cellRead_pushedRam_other _ h1 h2)

/-- FLAGS as it is read: bits 3-0 do not exist. -/
theorem peek_flags_and (s : State) : peek flagsAddr s &&& 0xF0 = s.flags &&& 0xF0 :=
  peek_and_stored (a := flagsAddr) (rfl : (0x0F : Byte) &&& 0xF0 = 0)

/-- The state after an interrupt is taken with the stack in the general-purpose bytes. -/
def enteredState (s : State) : State :=
  { s with
    pc := wordOf (progByte 0x0000 s) (progByte 0x0001 s)
    sp := s.sp - 3
    sym := (s.setGie false).sym
    ram := entryRam s
    draws := s.draws + 1 }

/-- Taking an interrupt with the stack in the general-purpose bytes and the vector in the ROM
always completes (R237). -/
theorem interruptEntry_ram (h1 : (s.sp - 1).toNat < 0xD0) (h2 : (s.sp - 2).toNat < 0xD0)
    (h3 : (s.sp - 3).toNat < 0xD0) (hrom : 2 ≤ s.cfg.romSize) :
    interruptEntry s = .next (enteredState s) := by
  have hsp : s.sp - 2 - 1 = s.sp - 3 := by bv_omega
  refine interruptEntry_eq_next.mpr ⟨_, _, pushWord_ram (s := s.setGie false) h1 h2,
    push_eq_next.mpr ⟨?refusal, rfl⟩, ?_⟩
  case refusal =>
    rw [afterRead_eq, drawMore_sp, setRam_sp, setSp_sp, setGie_sp, hsp]
    exact writeRefusal_ram h3 _
  rw [afterRead_eq, drawMore_sp, setRam_sp, setSp_sp, setGie_sp, hsp, storeReg_ram h3]
  exact ⟨Nat.lt_of_lt_of_le Nat.zero_lt_two hrom, hrom, rfl⟩

/-- Returning from an interrupt with the stack in the general-purpose bytes (R191, R238). -/
theorem interruptReturn_ram (h0 : s.sp.toNat < 0xD0) (h1 : (s.sp + 1).toNat < 0xD0)
    (h2 : (s.sp + 2).toNat < 0xD0) :
    interruptReturn s = .next { s with
      pc := wordOf (cellRead ramDefault s.ram (s.sp + 1).toNat)
        (cellRead ramDefault s.ram (s.sp + 2).toNat)
      sp := s.sp + 3
      sym := (s.setGie true).sym
      flags := cellRead ramDefault s.ram s.sp.toNat &&& 0xF0 } := by
  have hsp : s.sp + 1 + 1 = s.sp + 2 ∧ s.sp + 1 + 2 = s.sp + 3 := by constructor <;> bv_omega
  have hpop : pop s = (cellRead ramDefault s.ram s.sp.toNat, s.setSp (s.sp + 1)) := by
    rw [pop_eq, peek_ram h0, readDraws_ram h0, drawMore_zero]
  rw [interruptReturn_eq, hpop, popWord_ram h1 (hsp.1.symm ▸ h2), ← hsp.1, ← hsp.2]
  rfl

/-- Right after the entry, IRET finds what was pushed: the state before the entry, but for the bytes
below SP and the free value drawn. -/
theorem interruptReturn_enteredState (h1 : (s.sp - 1).toNat < 0xD0) (h2 : (s.sp - 2).toNat < 0xD0)
    (h3 : (s.sp - 3).toNat < 0xD0) (hwf : Memory.wf ramDefault ramSize s.ram)
    (hflags : s.flags &&& 0x0F = 0) (hsym : s.sym &&& 0xFB = 0) (hgie : s.gie = true) :
    interruptReturn (enteredState s) =
      .next { s with ram := entryRam s, draws := s.draws + 1 } := by
  have hsp1 : s.sp - 3 + 1 = s.sp - 2 := by bv_omega
  have hsp2 : s.sp - 3 + 2 = s.sp - 1 := by bv_omega
  have hsp3 : s.sp - 3 + 3 = s.sp := by bv_omega
  have hflags' : cellRead ramDefault (entryRam s) (s.sp - 3).toNat &&& 0xF0 = s.flags := by
    have stored : ∀ x : Byte, x &&& 0x0F = 0 → x &&& 0xF0 = x := by decide
    rw [cellRead_entryRam_flags h1 h2 hwf, peek_flags_and, stored _ hflags]
  have hpc : wordOf (cellRead ramDefault (entryRam s) (s.sp - 2).toNat)
      (cellRead ramDefault (entryRam s) (s.sp - 1).toNat) = s.pc := by
    rw [cellRead_entryRam_pch h1 hwf, cellRead_entryRam_pcl hwf, wordOf_hi_lo]
  have hsym' : ((s.setGie false).setGie true).sym = s.sym := by
    have set : ∀ x : Byte, x &&& 0xFB = 0 → x.getLsbD 2 = true →
        x &&& ~~~(BitVec.twoPow 8 2) ||| BitVec.twoPow 8 2 = x := by decide
    exact set _ hsym hgie
  refine (interruptReturn_ram (s := enteredState s) h3 (hsp1.symm ▸ h2) (hsp2.symm ▸ h1)).trans
    (congrArg Host.Outcome.next ?_)
  have hsp : (enteredState s).sp = s.sp - 3 := rfl
  have hram : (enteredState s).ram = entryRam s := rfl
  have hsymE : ((enteredState s).setGie true).sym = s.sym := hsym'
  rw [hsp, hram, hsymE, hsp1, hsp2, hsp3, hpc, hflags']
  rfl

end

/-- Settles O51: the state after the entry, byte by byte. (The name `interruptEntry` is that of the
model's operation.) -/
theorem interruptEntry_spec : Obligations.InterruptEntry := by
  intro s hwf hrom h1 h2 h3
  have hsp1 : s.sp - 3 + 1 = s.sp - 2 := by bv_omega
  have hsp2 : s.sp - 3 + 2 = s.sp - 1 := by bv_omega
  refine ⟨_, interruptEntry_ram h1 h2 h3 hrom, (ofNat_eq_wordOf _ _).symm, rfl, rfl, ?flags, ?pch,
    ?pcl, fun b hb hb1 hb2 hb3 => ?other, rfl⟩
  case flags =>
    refine (congrArg (· &&& 0xF0) ?_).trans (peek_flags_and s)
    exact (peek_ram h3 _).trans (cellRead_entryRam_flags h1 h2 hwf)
  case pch =>
    show peek (s.sp - 3 + 1) (enteredState s) = _
    rw [hsp1, peek_ram h2]
    exact cellRead_entryRam_pch h1 hwf
  case pcl =>
    show peek (s.sp - 3 + 2) (enteredState s) = _
    rw [hsp2, peek_ram h1]
    exact cellRead_entryRam_pcl hwf
  case other =>
    rw [peek_ram hb, peek_ram hb]
    exact cellRead_entryRam_other hb1 hb2 hb3

/-- Settles O52: IRET reads the three bytes that the entry wrote, and nothing else has changed. -/
theorem iretInvertsEntry : Obligations.IretInvertsEntry := by
  rintro s t ⟨⟨hwf, -⟩, ⟨hflags, hsym, -⟩, -⟩ hgie h1 h2 h3 h
  have hrom : 2 ≤ s.cfg.romSize := by
    obtain ⟨_, v, -, -, -, hv, rfl⟩ := interruptEntry_eq_next.mp h
    have hcfg : v.cfg = s.cfg := congrArg Prod.fst (interruptEntry_rom h)
    rwa [hcfg] at hv
  obtain rfl : enteredState s = t :=
    Host.Outcome.next.inj ((interruptEntry_ram h1 h2 h3 hrom).symm.trans h)
  refine ⟨_, interruptReturn_enteredState h1 h2 h3 hwf hflags hsym hgie, fun b hb1 hb2 hb3 => ?_,
    rfl⟩
  cases hr : regAt b <;> simp only [storedByte, hr]
  case ram => exact cellRead_entryRam_other hb1 hb2 hb3
  all_goals rfl

end Sys2Proof.Machine
end

section
/-! The ports (60_exceptions.md R300 to R303): the mode of each pin, what a read of it gives, what
the chip drives on it, and the falling edges of INT0 and INT1. -/

namespace Sys2Proof.Machine

/-! ### The modes of the pins -/

/-- The mode of P0.n by its code (R35, R36). -/
theorem p0Mode_eq (p : Ports) (n : Nat) :
    p0Mode p n = if p0Code p n = 3 then .analog else if p0Code p n = 2 then .pushPull
      else if n = 6 ∧ p0Code p n = 1 then .alternative else .input := by
  unfold p0Mode
  generalize p0Code p n = code
  rcases eq_or_ne n 6 with rfl | h6
  · revert code; decide
  · simp only [h6, false_and, if_false]
    revert code; decide

/-- P1.0 and P1.1 are taken with an external oscillator (R270). -/
theorem internalOscillator_eq (o : Oscillator) :
    internalOscillator o = !decide (o = .externalRc ∨ o = .crystal) := by
  cases o <;> rfl

/-- The mode of P1.0 or P1.1 by the oscillator and its code (R38, R301). -/
theorem p1Mode_eq (c : Params) (p : Ports) {n : Nat} (hn : n < 2) :
    p1Mode c p n = if c.oscillator = .externalRc ∨ c.oscillator = .crystal then .taken
      else if p.p1con.extractLsb' (2 * n) 2 = 2 then
        (if p.p1con.getLsbD (6 + n) = true then .openDrain else .pushPull)
      else .input := by
  by_cases ho : c.oscillator = .externalRc ∨ c.oscillator = .crystal
  · interval_cases n <;> simp [p1Mode, internalOscillator_eq, ho]
  · interval_cases n <;> simp [p1Mode, internalOscillator_eq, ho, field2]

/-- The modes of P2.1 to P2.5 by their code (R39, R40). -/
theorem p2Mode2_eq (code : BitVec 2) :
    p2Mode2 code = if code = 3 then .openDrain else if code = 2 then .pushPull else .input := by
  revert code; decide

/-- The mode of P2.0 by its code (R40). -/
theorem p20Mode_eq (p : Ports) :
    p20Mode p = if field2 p.p2conl 0 = 3 then .alternative
      else if field2 p.p2conl 0 = 2 then .pushPull else .input := by
  unfold p20Mode
  generalize field2 p.p2conl 0 = code
  revert code; decide

/-- The mode of P2.6 by its code (R39). -/
theorem p26Mode_eq (p : Ports) :
    p26Mode p = if (p.p2conh.extractLsb' 4 3).toNat ≤ 1 then .input
      else if (p.p2conh.extractLsb' 4 3).toNat ≤ 3 then .analog
      else if (p.p2conh.extractLsb' 4 3).toNat = 4 then .pushPull
      else if (p.p2conh.extractLsb' 4 3).toNat ≤ 6 then .openDrain else .alternative := by
  unfold p26Mode
  generalize p.p2conh.extractLsb' 4 3 = code
  revert code; decide

/-- The mode of P2.0 to P2.5 by its code (R39, R40). -/
theorem p2Mode_eq (p : Ports) {n : Nat} (hn : n < 6) :
    let code := if n < 4 then p.p2conl.extractLsb' (2 * n) 2
      else p.p2conh.extractLsb' (2 * (n - 4)) 2
    p2Mode p n = if code = 3 then (if n = 0 then .alternative else .openDrain)
      else if code = 2 then .pushPull else .input := by
  interval_cases n
  · exact p20Mode_eq p
  all_goals exact p2Mode2_eq _

/-! ### What a read of a pin gives -/

/-- A bit of a read: free, or as stored. -/
theorem peek_getLsbD (a : Byte) (s : State) {n : Nat} (hn : n < 8) :
    (peek a s).getLsbD n =
      if (freeMask a s).getLsbD n then (Config.freeByte s.draws).getLsbD n
      else (storedByte a s).getLsbD n := by
  unfold peek
  split
  · rename_i h0
    have hbit : (freeMask a s).getLsbD n = false := by rw [h0]; exact BitVec.getLsbD_zero
    rw [hbit, if_neg Bool.false_ne_true]
  · exact mixBits_getLsbD _ _ _ hn

/-- A pin that bit `n` of the data register at `a` reads in the mode `m` (R300 (b)). -/
structure ReadsPin (a : Byte) (s : State) (n : Nat) (m : PinMode) (level latch : Bool) : Prop where
  lt : n < 8
  free : (freeMask a s).getLsbD n = !m.readable
  stored : (storedByte a s).getLsbD n = m.readBit level latch

/-- The level of an input, the latch of a push-pull output, a free bit in every other mode. -/
theorem ReadsPin.peek_eq {a : Byte} {s : State} {n : Nat} {m : PinMode} {level latch : Bool}
    (h : ReadsPin a s n m level latch) :
    (m = .input → (peek a s).getLsbD n = level) ∧
    (m = .pushPull → (peek a s).getLsbD n = latch) ∧
    (m ≠ .input → m ≠ .pushPull →
      (peek a s).getLsbD n = (Config.freeByte s.draws).getLsbD n) := by
  rw [peek_getLsbD a s h.lt, h.free, h.stored]
  cases m <;> simp [PinMode.readable, PinMode.readBit]

theorem readsPin_p0 (s : State) {n : Nat} (hn : n < 8) :
    ReadsPin 0xE0 s n (p0Mode s.ports n) (s.pins.p0.getLsbD n) (s.ports.p0.getLsbD n) :=
  have hfree : freeMask 0xE0 s = p0FreeMask s := rfl
  have hstored : storedByte 0xE0 s = p0Read s := rfl
  ⟨hn, by rw [hfree, p0FreeMask, byteOf_getLsbD _ hn],
    by rw [hstored, p0Read, byteOf_getLsbD _ hn]⟩

theorem readsPin_p1 (s : State) {n : Nat} (hn : n < 3) :
    ReadsPin 0xE1 s n (p1Mode s.cfg s.ports n) (s.pins.p1.getLsbD n) (s.ports.p1.getLsbD n) := by
  have hn8 : n < 8 := by omega
  have hfree : freeMask 0xE1 s = p1FreeMask s := rfl
  have hstored : storedByte 0xE1 s = p1Read s := rfl
  refine ⟨hn8, ?_, ?_⟩
  · rw [hfree, p1FreeMask, byteOf_getLsbD _ hn8, decide_eq_true hn, Bool.true_and]
  · rw [hstored, p1Read, byteOf_getLsbD _ hn8, decide_eq_true hn, Bool.true_and]

theorem readsPin_p2 (s : State) {n : Nat} (hn : n < 7) :
    ReadsPin 0xE2 s n (p2Mode s.ports n) (s.pins.p2.getLsbD n) (s.ports.p2.getLsbD n) := by
  have hn8 : n < 8 := by omega
  have hfree : freeMask 0xE2 s = p2FreeMask s := rfl
  have hstored : storedByte 0xE2 s = p2Read s := rfl
  refine ⟨hn8, ?_, ?_⟩
  · rw [hfree, p2FreeMask, byteOf_getLsbD _ hn8, decide_eq_true hn, Bool.true_and]
  · rw [hstored, p2Read, byteOf_getLsbD _ hn8, decide_eq_true hn, Bool.true_and]

/-! ### The ports after a reset -/

/-- The port registers that every reset leaves (R48). -/
def resetPorts : Ports :=
  { p0 := 0x00, p1 := 0x00, p2 := 0x00, p0conh := 0x00, p0conl := 0x00, p0pnd := 0x00,
    p1con := 0x00, p2conh := 0x00, p2conl := 0x00 }

theorem doReset_ports (src : ResetSource) (s : State) : (doReset src s).ports = resetPorts := rfl

theorem p0Mode_resetPorts (n : Nat) : p0Mode resetPorts n = .input := by
  have hcode : p0Code resetPorts n = 0 := by
    unfold p0Code
    split <;> exact BitVec.extractLsb'_zero
  rw [p0Mode, hcode]
  rfl

theorem p2Mode_resetPorts (n : Nat) : p2Mode resetPorts n = .input := by
  unfold p2Mode
  split <;> decide

theorem p1Mode_resetPorts (c : Params) (n : Nat) :
    p1Mode c resetPorts n = .input ∨ p1Mode c resetPorts n = .taken := by
  rcases Nat.lt_or_ge n 2 with hn | hn
  · have hcode : resetPorts.p1con.extractLsb' (2 * n) 2 = 0 := BitVec.extractLsb'_zero
    rw [p1Mode_eq c _ hn, hcode, if_neg (by decide : (0 : BitVec 2) ≠ 2)]
    split
    · exact .inr rfl
    · exact .inl rfl
  · obtain ⟨k, rfl⟩ := Nat.exists_eq_add_of_le' hn
    have hmode : p1Mode c resetPorts (k + 2) = if c.lvrEnable then .input else .taken := rfl
    rw [hmode]
    cases c.lvrEnable
    · exact .inr rfl
    · exact .inl rfl

/-- Settles O19, port by port: the modes by their codes, the reads and the drive by the mode. -/
theorem portReads : Obligations.PortReads := by
  refine ⟨fun p n _ => p0Mode_eq p n, fun c p n hn => p1Mode_eq c p hn, fun _ _ => rfl,
    fun p n hn => p2Mode_eq p hn, fun p => p26Mode_eq p, fun s n hn => ?p0, fun s n hn => ?p1,
    fun s n hn => ?p2, fun _ _ n =>
      ⟨p0Mode_resetPorts n, p2Mode_resetPorts n, p1Mode_resetPorts _ n⟩⟩
  case p0 =>
    obtain ⟨hinput, hlatch, hfree⟩ := (readsPin_p0 s hn).peek_eq
    have drive {m : PinMode} (h : p0Mode s.ports n = m) :
        p0Drive s n = m.drive (s.ports.p0.getLsbD n) (pwmOut s.pwm) := by rw [p0Drive, h]
    exact ⟨fun h => ⟨hinput h, drive h⟩, fun h => ⟨hlatch h, drive h⟩, hfree, drive, drive⟩
  case p1 =>
    obtain ⟨hinput, hlatch, hfree⟩ := (readsPin_p1 s hn).peek_eq
    have drive {m : PinMode} (h : p1Mode s.cfg s.ports n = m) :
        p1Drive s n = m.drive (s.ports.p1.getLsbD n) false := by rw [p1Drive, h]
    exact ⟨fun h => ⟨hinput h, drive h⟩, fun h => ⟨hlatch h, drive h⟩, hfree, drive, drive⟩
  case p2 =>
    obtain ⟨hinput, hlatch, hfree⟩ := (readsPin_p2 s hn).peek_eq
    have drive {m : PinMode} (h : p2Mode s.ports n = m) :
        p2Drive s n = m.drive (s.ports.p2.getLsbD n) (if n = 0 then s.t0.out else s.clo) := by
      rw [p2Drive, h]
    exact ⟨fun h => ⟨hinput h, drive h⟩, fun h => ⟨hlatch h, drive h⟩, hfree, drive, drive, drive⟩

/-! ### Falling edges -/

/-- The pending bit after `set_pending` (R283, R234 (d)). -/
theorem setPending_getLsbD_self {c : Params} {reg : Byte} {enable pend : Nat} (hp : pend < 8) :
    (setPending c reg enable pend).getLsbD pend = true ↔
      reg.getLsbD pend = true ∨ (c.pendWhenDisabled = true ∨ reg.getLsbD enable = true) := by
  unfold setPending
  by_cases h : (c.pendWhenDisabled || reg.getLsbD enable) = true
  · rw [if_pos h]
    simp only [Bool.or_eq_true] at h
    simp [hp, h]
  · rw [if_neg h]
    simp only [Bool.or_eq_true] at h
    simp [h]

/-- The other bits after `set_pending`. -/
theorem setPending_getLsbD_ne {c : Params} {reg : Byte} {enable pend i : Nat} (h : pend ≠ i) :
    (setPending c reg enable pend).getLsbD i = reg.getLsbD i := by
  unfold setPending
  split
  · simp [BitVec.getLsbD_twoPow, h]
  · rfl

/-- The two input codes are those whose high bit is 0 (R35). -/
theorem edgeEnabled_eq (p : Ports) {n : Nat} (hn : n < 4) :
    edgeEnabled p n = !p.p0conl.getLsbD (2 * n + 1) := by
  have code : ∀ x : BitVec 2, (x == 0 || x == 1) = !x.getLsbD 1 := by decide
  rw [edgeEnabled, code, p0Code, if_pos hn, field2, BitVec.getLsbD_extractLsb']
  simp

/-- The pending bit after the level of P0.n changes (R303). -/
theorem edgePending_getLsbD_self (c : Params) (p : Ports) {n : Nat} (hn : n < 4)
    (prev now : Bool) :
    (edgePending c p n prev now).getLsbD (2 * n) = true ↔ p.p0pnd.getLsbD (2 * n) = true ∨
      (prev = true ∧ now = false ∧ p.p0conl.getLsbD (2 * n + 1) = false ∧
        (c.pendWhenDisabled = true ∨ p.p0pnd.getLsbD (2 * n + 1) = true)) := by
  unfold edgePending
  rw [edgeEnabled_eq p hn]
  split
  · rename_i h
    simp only [Bool.and_eq_true, Bool.not_eq_true'] at h
    obtain ⟨⟨hprev, hnow⟩, hmode⟩ := h
    rw [setPending_getLsbD_self (by omega)]
    simp only [hprev, hnow, hmode, true_and]
  · rename_i h
    simp only [Bool.and_eq_true, Bool.not_eq_true', and_assoc] at h
    tauto

/-- The other bits of P0PND after the level of P0.n changes. -/
theorem edgePending_getLsbD_ne (c : Params) (p : Ports) {n i : Nat} (h : 2 * n ≠ i)
    (prev now : Bool) : (edgePending c p n prev now).getLsbD i = p.p0pnd.getLsbD i := by
  unfold edgePending
  split
  · exact setPending_getLsbD_ne h
  · rfl

/-- P0PND after the pins change: the detector of INT0, then that of INT1. -/
theorem changePins_p0pnd (p0 : BitVec 8) (p1 : BitVec 3) (p2 : BitVec 7) (s : State) :
    (changePins p0 p1 p2 s).ports.p0pnd = edgePending s.cfg
      { s.ports with p0pnd := edgePending s.cfg s.ports 0 s.pins.intPrev0 (p0.getLsbD 0) } 1
      s.pins.intPrev1 (p0.getLsbD 1) := rfl

/-- Settles O59: each detector sets its own pending bit only. -/
theorem externalInterruptEdges : Obligations.ExternalInterruptEdges := by
  intro s p0 p1 p2
  dsimp only
  rw [changePins_p0pnd]
  refine ⟨?int0, ?int1, ?others, rfl, rfl, rfl, rfl, rfl⟩
  case int0 =>
    rw [edgePending_getLsbD_ne _ _ (by decide)]
    exact edgePending_getLsbD_self _ _ (by decide) _ _
  case int1 =>
    refine (edgePending_getLsbD_self _ _ (by decide) _ _).trans ?_
    simp only [edgePending_getLsbD_ne _ _ (show 2 * 0 ≠ 2 * 1 by decide),
      edgePending_getLsbD_ne _ _ (show 2 * 0 ≠ 2 * 1 + 1 by decide)]
  case others => rw [edgePending_and (by decide), edgePending_and (by decide)]

end Sys2Proof.Machine
end

section
/-! The Basic Timer, Timer 0 and the PWM over any number of periods (60_exceptions.md R275 to R292):
each is its tick repeated, and the ticks have a closed form. -/

namespace Sys2Proof.Machine

/-! ### The Basic Timer (R276) -/

theorem btDivider_eq {con : Byte} {period : Nat}
    (h : (con.extractLsb' 2 2 = 0 ∧ period = 4096) ∨ (con.extractLsb' 2 2 = 1 ∧ period = 1024) ∨
      (con.extractLsb' 2 2 = 2 ∧ period = 128)) : btDivider con = period := by
  unfold btDivider field2
  rcases h with ⟨hc, rfl⟩ | ⟨hc, rfl⟩ | ⟨hc, rfl⟩ <;> rw [hc] <;> rfl

theorem watchdogEnabled_iff (con : Byte) :
    watchdogEnabled con = true ↔ con.extractLsb' 4 4 ≠ 0xA := by
  rw [watchdogEnabled, bne_iff_ne]

theorem add_ofNat_toNat (x : Byte) (n : Nat) :
    (x + BitVec.ofNat 8 n).toNat = (x.toNat + n) % 256 := by
  rw [BitVec.toNat_add, BitVec.toNat_ofNat, Nat.add_mod_mod]

theorem btTick_iterate_cnt_toNat (n : Nat) (b : BasicTimer) :
    (btTick^[n] b).cnt.toNat = (b.cnt.toNat + n) % 256 := by
  rw [btTick_iterate_cnt, add_ofNat_toNat]

/-- From a cleared count BTCNT.4 first rises at the 16th tick (R243 (d)). -/
theorem btTick_iterate_stable {b : BasicTimer} (h0 : b.cnt.toNat = 0) (n : Nat) :
    (btTick^[n] b).stable = true ↔ b.stable = true ∨ 16 ≤ n := by
  have rises : ∀ x : Byte, (!x.getLsbD 4 && (x + 1).getLsbD 4) = true ↔ x.toNat % 32 = 15 := by
    decide
  induction n with
  | zero => simp
  | succ n ih =>
    rw [Function.iterate_succ_apply']
    simp only [btTick, Bool.or_eq_true, ih, rises, btTick_iterate_cnt_toNat, h0, or_assoc]
    exact or_congr_right (by omega)

/-- The watchdog asks for a reset at the step from FFH to 00H, where it is enabled (R276). -/
theorem btTick_iterate_request_iff (b : BasicTimer) (n : Nat) :
    (btTick^[n] b).request = true ↔
      b.request = true ∨ (watchdogEnabled b.con = true ∧ 256 ≤ b.cnt.toNat + n) := by
  have last (x : Byte) : x = 0xFF ↔ x.toNat = 255 := BitVec.toNat_inj.symm
  have hcnt := b.cnt.isLt
  induction n with
  | zero => simp; omega
  | succ n ih =>
    rw [Function.iterate_succ_apply']
    simp only [btTick, Bool.or_eq_true, Bool.and_eq_true, beq_iff_eq, ih, btTick_iterate_con, last,
      btTick_iterate_cnt_toNat, or_assoc]
    refine or_congr_right ?_
    rw [and_comm (b := watchdogEnabled b.con = true), ← and_or_left]
    exact and_congr_right fun _ => by omega

/-- Settles O55: the Basic Timer has ticked once in each period of its divider. -/
theorem basicTimerAndWatchdog : Obligations.BasicTimerAndWatchdog := by
  intro s n period hm h0 hcnt hcode
  have hd : btDivider s.bt.con = period := btDivider_eq hcode
  have hpos : 0 < period := by omega
  have hbt : (ticks n s).bt = btTick^[n / period] s.bt := by rw [ticks_bt hm h0, hd]
  have hcnt0 : s.bt.cnt.toNat = 0 := by rw [hcnt]; rfl
  refine ⟨ticks_bt_con n s, ?cnt, ?stable, ?request⟩ <;> rw [hbt]
  case cnt => rw [btTick_iterate_cnt, hcnt]; exact BitVec.zero_add _
  case stable => rw [btTick_iterate_stable hcnt0, Nat.le_div_iff_mul_le hpos]
  case request =>
    rw [btTick_iterate_request_iff, watchdogEnabled_iff, hcnt0, Nat.zero_add,
      Nat.le_div_iff_mul_le hpos]

/-! ### Timer 0 (R283) -/

theorem t0Divider_eq {con : Byte} {period : Nat}
    (h : (con.extractLsb' 6 2 = 0 ∧ period = 4096) ∨ (con.extractLsb' 6 2 = 1 ∧ period = 256) ∨
      (con.extractLsb' 6 2 = 2 ∧ period = 8) ∨ (con.extractLsb' 6 2 = 3 ∧ period = 1)) :
    t0Divider con = period := by
  unfold t0Divider field2
  rcases h with ⟨hc, rfl⟩ | ⟨hc, rfl⟩ | ⟨hc, rfl⟩ | ⟨hc, rfl⟩ <;> rw [hc] <;> rfl

/-- A pending bit that is set stays set. -/
theorem setPending_setPending (c : Params) (reg : Byte) (enable pend : Nat) :
    setPending c (setPending c reg enable pend) enable pend = setPending c reg enable pend := by
  unfold setPending
  by_cases h : (c.pendWhenDisabled || reg.getLsbD enable) = true
  · rw [if_pos h]
    split
    · rw [BitVec.or_assoc, BitVec.or_self]
    · rfl
  · rw [if_neg h, if_neg h]

/-- The pending bit of T0CON or PWMCON where it has been set if `p` (R234 (d)). -/
theorem getLsbD_setPending_if (c : Params) (reg : Byte) {p : Prop} [Decidable p] :
    (if p then setPending c reg 1 0 else reg).getLsbD 0 = true ↔ reg.getLsbD 0 = true ∨
      ((c.pendWhenDisabled = true ∨ reg.getLsbD 1 = true) ∧ p) := by
  split
  case isTrue h => rw [setPending_getLsbD_self (by decide), and_iff_left h]
  case isFalse h => rw [iff_false_intro h, and_false, or_false]

/-- Timer 0 after `k` ticks from a cleared count that wraps every `wrap` of them. -/
def t0After (c : Params) (t : Timer0) (wrap k : Nat) : Timer0 :=
  { t with
    cnt := BitVec.ofNat 8 (k % wrap)
    con := if wrap ≤ k then setPending c t.con 1 0 else t.con
    out := t.out ^^ decide (k / wrap % 2 = 1) }

/-- The tick from the `k`th on is a match where the count has reached T0DATA. -/
theorem t0Match_t0After {c : Params} {t : Timer0} (hc : c.t0PeriodPlusOne = true) (k : Nat) :
    t0Match c (t0After c t (t.data.toNat + 1) k) = true ↔
      k % (t.data.toNat + 1) = t.data.toNat := by
  have hdata := t.data.isLt
  have hlt : k % (t.data.toNat + 1) < t.data.toNat + 1 := Nat.mod_lt _ (Nat.succ_pos _)
  rw [t0Match, if_pos hc, beq_iff_eq, ← BitVec.toNat_inj]
  show (BitVec.ofNat 8 _).toNat = t.data.toNat ↔ _
  rw [BitVec.toNat_ofNat, Nat.mod_eq_of_lt (by omega)]

/-- Where the remainder is at its greatest, the next number is a multiple. -/
theorem succ_of_mod_eq {d k : Nat} (h : k % (d + 1) = d) :
    (k + 1) % (d + 1) = 0 ∧ (k + 1) / (d + 1) = k / (d + 1) + 1 ∧ d + 1 ≤ k + 1 := by
  have hk : k + 1 = (d + 1) * (k / (d + 1) + 1) := by
    have := Nat.div_add_mod k (d + 1)
    rw [Nat.mul_succ]; omega
  have hle := Nat.mod_le k (d + 1)
  refine ⟨?_, ?_, by omega⟩
  · rw [hk, Nat.mul_mod_right]
  · conv_lhs => rw [hk, Nat.mul_div_cancel_left _ (Nat.succ_pos d)]

/-- Elsewhere the remainder counts up in step and the quotient stays. -/
theorem succ_of_mod_ne {d k : Nat} (h : k % (d + 1) ≠ d) :
    (k + 1) % (d + 1) = k % (d + 1) + 1 ∧ (k + 1) / (d + 1) = k / (d + 1) ∧
      (d + 1 ≤ k + 1 ↔ d + 1 ≤ k) := by
  have hlt : k % (d + 1) < d + 1 := Nat.mod_lt _ (Nat.succ_pos d)
  have hk : k + 1 = k % (d + 1) + 1 + (d + 1) * (k / (d + 1)) := by
    have := Nat.div_add_mod k (d + 1)
    omega
  refine ⟨?_, ?_, fun hd => ?_, fun hd => by omega⟩
  · conv_lhs => rw [hk, Nat.add_mul_mod_self_left, Nat.mod_eq_of_lt (by omega)]
  · conv_lhs =>
      rw [hk, Nat.add_mul_div_left _ _ (Nat.succ_pos d), Nat.div_eq_of_lt (by omega), Nat.zero_add]
  · by_contra hc
    exact h ((Nat.mod_eq_of_lt (by omega)).trans (by omega))

theorem t0After_match (c : Params) (t : Timer0) {d k : Nat} (h : k % (d + 1) = d) :
    t0After c t (d + 1) (k + 1) =
      { t0After c t (d + 1) k with
        cnt := 0
        con := setPending c (t0After c t (d + 1) k).con 1 0
        out := !(t0After c t (d + 1) k).out } := by
  obtain ⟨hmod, hdiv, hle⟩ := succ_of_mod_eq h
  have hpar : decide ((k / (d + 1) + 1) % 2 = 1) = !decide (k / (d + 1) % 2 = 1) := by
    rw [← decide_not]; exact decide_eq_decide.mpr (by omega)
  simp only [t0After, hmod, hdiv, if_pos hle, hpar, Bool.xor_not, Timer0.mk.injEq, true_and,
    and_true]
  refine ⟨rfl, ?_⟩
  split
  · exact (setPending_setPending c t.con 1 0).symm
  · rfl

theorem t0After_count (c : Params) (t : Timer0) {d k : Nat} (h : k % (d + 1) ≠ d) :
    t0After c t (d + 1) (k + 1) =
      { t0After c t (d + 1) k with cnt := (t0After c t (d + 1) k).cnt + 1 } := by
  obtain ⟨hmod, hdiv, hle⟩ := succ_of_mod_ne h
  simp only [t0After, hmod, hdiv, hle, BitVec.ofNat_add]
  rfl

/-- Timer 0 after `k` ticks from a cleared count (R283, R284). -/
theorem t0Tick_iterate {c : Params} {t : Timer0} (hc : c.t0PeriodPlusOne = true)
    (h0 : t.cnt = 0) (k : Nat) :
    (t0Tick c)^[k] t = t0After c t (t.data.toNat + 1) k := by
  induction k with
  | zero =>
    obtain ⟨cnt, data, con, out⟩ := t
    obtain rfl : cnt = 0 := h0
    simp [t0After]
  | succ k ih =>
    rw [Function.iterate_succ_apply', ih, t0Tick]
    split
    case isTrue h => exact (t0After_match c t ((t0Match_t0After hc k).mp h)).symm
    case isFalse h => exact (t0After_count c t (fun e => h ((t0Match_t0After hc k).mpr e))).symm

/-- Settles O56: the ticks of Timer 0 in their closed form. -/
theorem timer0Matches : Obligations.Timer0Matches := by
  intro s n period hm h0 hcnt hplus hcode
  have hd : t0Divider s.t0.con = period := t0Divider_eq hcode
  have hpos : 0 < period := by omega
  have ht0 : (ticks n s).t0 = t0After s.cfg s.t0 (s.t0.data.toNat + 1) (n / period) := by
    rw [ticks_t0 hm h0, hd, t0Tick_iterate hplus hcnt]
  have hle : period * (s.t0.data.toNat + 1) ≤ n ↔ s.t0.data.toNat + 1 ≤ n / period := by
    rw [Nat.le_div_iff_mul_le hpos, Nat.mul_comm]
  refine ⟨by rw [ht0]; rfl, by rw [ht0]; rfl, ?pending, ticks_t0_con_and (by decide) n s,
    by rw [ht0]; rfl⟩
  rw [ht0, hle]
  exact getLsbD_setPending_if _ _

/-! ### The PWM (R290, R292) -/

theorem pwmDivider_eq {con : Byte} {period : Nat}
    (h : (con.extractLsb' 6 2 = 0 ∧ period = 64) ∨ (con.extractLsb' 6 2 = 1 ∧ period = 8) ∨
      (con.extractLsb' 6 2 = 2 ∧ period = 2) ∨ (con.extractLsb' 6 2 = 3 ∧ period = 1)) :
    pwmDivider con = period := by
  unfold pwmDivider field2
  rcases h with ⟨hc, rfl⟩ | ⟨hc, rfl⟩ | ⟨hc, rfl⟩ | ⟨hc, rfl⟩ <;> rw [hc] <;> rfl

theorem pwmDivider_dvd (con : Byte) : pwmDivider con ∣ 4096 := by
  unfold pwmDivider; split <;> decide

theorem pwmDivider_and (con : Byte) : pwmDivider (con &&& 0xC0) = pwmDivider con := by
  have h : field2 (con &&& 0xC0) 6 = field2 con 6 := by revert con; decide
  rw [pwmDivider, h]; rfl

/-- Periods neither start nor stop the PWM. -/
theorem ticks_pwm_con_run (n : Nat) (s : State) :
    (ticks n s).pwm.con.getLsbD 2 = s.pwm.con.getLsbD 2 := by
  have h := congrArg (·.getLsbD 2) (ticks_pwm_con_and (mask := 0x04) (by decide) n s)
  simpa using h

/-- A stopped PWM keeps its state. -/
theorem ticks_pwm_stopped {s : State} (hm : s.mode ≠ .stop) (h : s.pwm.con.getLsbD 2 = false)
    (n : Nat) : (ticks n s).pwm = s.pwm := by
  induction n with
  | zero => rfl
  | succ n ih =>
    rw [ticks_succ', tick_pwm (by rwa [ticks_mode]), ih, h]
    rfl

/-- A running PWM after `n` periods from a cleared divider (R290). -/
theorem ticks_pwm_running {s : State} (hm : s.mode ≠ .stop) (h0 : s.div = 0)
    (h : s.pwm.con.getLsbD 2 = true) (n : Nat) :
    (ticks n s).pwm = (pwmTick s.cfg)^[n / pwmDivider s.pwm.con] s.pwm := by
  refine ticks_device (view := (·.pwm)) (pwmDivider_dvd _) hm h0 (fun n => ?_) n
  rw [tick_pwm (by rwa [ticks_mode]), ticks_cfg, ticks_pwm_con_run, h, Bool.true_and,
    ← pwmDivider_and (ticks n s).pwm.con, ticks_pwm_con_and (by decide), pwmDivider_and]

/-- After how many counts the data buffer is reloaded (R292, R42). -/
def reloadPeriod (con : Byte) : Nat := if con.getLsbD 4 then 64 else 256

theorem pwmReloads_iff (con cnt : Byte) :
    pwmReloads con cnt = true ↔ cnt.toNat % reloadPeriod con = 0 := by
  unfold pwmReloads reloadPeriod
  split
  · rw [beq_iff_eq, ← BitVec.toNat_inj, BitVec.extractLsb'_toNat]
    rfl
  · rw [beq_iff_eq, ← BitVec.toNat_inj, Nat.mod_eq_of_lt cnt.isLt]
    rfl

theorem reloadPeriod_cases (con : Byte) : reloadPeriod con = 64 ∨ reloadPeriod con = 256 := by
  unfold reloadPeriod
  split
  · exact .inl rfl
  · exact .inr rfl

theorem reloadPeriod_setPending (c : Params) (con : Byte) :
    reloadPeriod (setPending c con 1 0) = reloadPeriod con := by
  rw [reloadPeriod, setPending_getLsbD_ne (by decide), reloadPeriod]

/-- A count that starts at `a` has passed a multiple of `d` after `k + 1` steps if it had after `k`
or has just reached one. -/
theorem passed_succ (d a k : Nat) :
    d ≤ a % d + (k + 1) ↔ (a + (k + 1)) % d = 0 ∨ d ≤ a % d + k := by
  have hmod : (a + (k + 1)) % d = (a % d + (k + 1)) % d := by rw [Nat.mod_add_mod]
  rw [hmod]
  constructor
  · intro h
    rcases Nat.eq_or_lt_of_le h with he | hlt
    · exact .inl (he ▸ Nat.mod_self _)
    · exact .inr (by omega)
  · rintro (h | h)
    · exact Nat.le_of_dvd (by omega) (Nat.dvd_of_mod_eq_zero h)
    · omega

/-- The PWM after `k` ticks. -/
def pwmAfter (c : Params) (p : Pwm) (k : Nat) : Pwm :=
  { p with
    cnt := p.cnt + BitVec.ofNat 8 k
    buf := if reloadPeriod p.con ≤ p.cnt.toNat % reloadPeriod p.con + k then p.data else p.buf
    con := if 256 ≤ p.cnt.toNat + k then setPending c p.con 1 0 else p.con }

theorem pwmAfter_con (c : Params) (p : Pwm) (k : Nat) :
    (pwmAfter c p k).con = if 256 ≤ p.cnt.toNat + k then setPending c p.con 1 0 else p.con := rfl

theorem pwmAfter_buf (c : Params) (p : Pwm) (k : Nat) :
    (pwmAfter c p k).buf = if reloadPeriod p.con ≤ p.cnt.toNat % reloadPeriod p.con + k then p.data
      else p.buf := rfl

theorem reloadPeriod_pwmAfter (c : Params) (p : Pwm) (k : Nat) :
    reloadPeriod (pwmAfter c p k).con = reloadPeriod p.con := by
  rw [pwmAfter_con]
  split
  · exact reloadPeriod_setPending c p.con
  · rfl

/-- The tick after the `k`th overflows in 8 bits. -/
theorem pwmAfter_overflow (p : Pwm) (k : Nat) :
    256 ≤ p.cnt.toNat + (k + 1) ↔
      p.cnt + BitVec.ofNat 8 (k + 1) = 0 ∨ 256 ≤ p.cnt.toNat + k := by
  have h := passed_succ 256 p.cnt.toNat k
  rw [Nat.mod_eq_of_lt p.cnt.isLt, ← add_ofNat_toNat] at h
  rw [h, ← BitVec.toNat_inj]
  rfl

/-- The tick after the `k`th is at a reload of the buffer. -/
theorem pwmAfter_reload (c : Params) (p : Pwm) (k : Nat) :
    reloadPeriod p.con ≤ p.cnt.toNat % reloadPeriod p.con + (k + 1) ↔
      pwmReloads (pwmAfter c p k).con (p.cnt + BitVec.ofNat 8 (k + 1)) = true ∨
        reloadPeriod p.con ≤ p.cnt.toNat % reloadPeriod p.con + k := by
  rw [pwmReloads_iff, reloadPeriod_pwmAfter, add_ofNat_toNat]
  rcases reloadPeriod_cases p.con with h | h <;> rw [h]
  · rw [passed_succ, Nat.mod_mod_of_dvd _ (by decide)]
  · rw [passed_succ, Nat.mod_mod]

theorem pwmTick_pwmAfter (c : Params) (p : Pwm) (k : Nat) :
    pwmTick c (pwmAfter c p k) = pwmAfter c p (k + 1) := by
  have hcnt : (pwmAfter c p k).cnt + 1 = p.cnt + BitVec.ofNat 8 (k + 1) := by
    rw [BitVec.ofNat_add, ← BitVec.add_assoc]; rfl
  refine Pwm.mk.injEq .. |>.mpr ⟨rfl, ?con, hcnt, ?buf⟩
  case con =>
    rw [hcnt, pwmAfter_con]
    by_cases hover : p.cnt + BitVec.ofNat 8 (k + 1) = 0
    · rw [if_pos hover, if_pos ((pwmAfter_overflow p k).mpr (.inl hover))]
      split
      · exact setPending_setPending c p.con 1 0
      · rfl
    · rw [if_neg hover]
      exact if_congr ((or_iff_right hover).symm.trans (pwmAfter_overflow p k).symm) rfl rfl
  case buf =>
    rw [hcnt, pwmAfter_buf]
    by_cases hreload : pwmReloads (pwmAfter c p k).con (p.cnt + BitVec.ofNat 8 (k + 1)) = true
    · rw [if_pos hreload, if_pos ((pwmAfter_reload c p k).mpr (.inl hreload))]
      rfl
    · rw [if_neg hreload]
      exact if_congr ((or_iff_right hreload).symm.trans (pwmAfter_reload c p k).symm) rfl rfl

theorem pwmTick_iterate (c : Params) (p : Pwm) (k : Nat) :
    (pwmTick c)^[k] p = pwmAfter c p k := by
  induction k with
  | zero =>
    have hcnt := p.cnt.isLt
    have hreload : ¬reloadPeriod p.con ≤ p.cnt.toNat % reloadPeriod p.con := by
      rcases reloadPeriod_cases p.con with h | h <;> rw [h] <;> omega
    have hover : ¬256 ≤ p.cnt.toNat := by omega
    simp [pwmAfter, hover, hreload]
  | succ k ih => rw [Function.iterate_succ_apply', ih, pwmTick_pwmAfter]

/-! ### The PWM output (R291) -/

/-- Table 11-2 with the cycles numbered 1 to 4. -/
theorem pwmStretched_iff (cycle ext : BitVec 2) :
    pwmStretched cycle ext = true ↔
      (ext.toNat = 1 ∧ cycle.toNat + 1 = 2) ∨
      (ext.toNat = 2 ∧ (cycle.toNat + 1 = 1 ∨ cycle.toNat + 1 = 3)) ∨
      (ext.toNat = 3 ∧ (cycle.toNat + 1 = 1 ∨ cycle.toNat + 1 = 2 ∨ cycle.toNat + 1 = 3)) := by
  revert cycle ext; decide

/-- The output in whole numbers: the low six bits of the count against bits 7-2 of the buffer. -/
theorem pwmOut_eq (p : Pwm) :
    let cycle := p.cnt.toNat / 64 + 1
    let ext := p.buf.toNat % 4
    pwmOut p = decide (p.cnt.toNat % 64 < p.buf.toNat / 4 +
      if (ext = 1 ∧ cycle = 2) ∨ (ext = 2 ∧ (cycle = 1 ∨ cycle = 3)) ∨
        (ext = 3 ∧ (cycle = 1 ∨ cycle = 2 ∨ cycle = 3)) then 1 else 0) := by
  have hcnt := p.cnt.isLt
  have hbuf := p.buf.isLt
  have hlow : (p.cnt.extractLsb' 0 6).toNat = p.cnt.toNat % 64 := by
    rw [BitVec.extractLsb'_toNat]; rfl
  have hcycle : (p.cnt.extractLsb' 6 2).toNat = p.cnt.toNat / 64 := by
    rw [BitVec.extractLsb'_toNat, Nat.shiftRight_eq_div_pow]; omega
  have hlevel : (p.buf.extractLsb' 2 6).toNat = p.buf.toNat / 4 := by
    rw [BitVec.extractLsb'_toNat, Nat.shiftRight_eq_div_pow]; omega
  have hext : (p.buf.extractLsb' 0 2).toNat = p.buf.toNat % 4 := by
    rw [BitVec.extractLsb'_toNat]; rfl
  simp only [pwmOut, pwmStretched_iff, hlow, hcycle, hlevel, hext]

/-- Settles O57: the output bit by bit, the count and its reloads tick by tick. -/
theorem pwmCounts : Obligations.PwmCounts := by
  refine ⟨pwmOut_eq, fun s n hm => ⟨fun h => ticks_pwm_stopped hm h n,
    fun period hrun h0 hcode => ?_⟩⟩
  have hpwm : (ticks n s).pwm = pwmAfter s.cfg s.pwm (n / period) := by
    rw [ticks_pwm_running hm h0 hrun, pwmDivider_eq hcode, pwmTick_iterate]
  rw [hpwm]
  refine ⟨rfl, rfl, ?buf, ?pending⟩
  case buf =>
    rw [pwmAfter_buf, reloadPeriod]
    split
    · rfl
    · rw [Nat.mod_eq_of_lt s.pwm.cnt.isLt]
  case pending =>
    rw [pwmAfter_con]
    exact getLsbD_setPending_if _ _

end Sys2Proof.Machine
end

section
/-! The A/D converter (60_exceptions.md R296, R297): a conversion from the write to ADCON that starts
it to its result. -/

namespace Sys2Proof.Machine

theorem adcDivider_field2 {v : Byte} {period : Nat}
    (h : (v.extractLsb' 1 2 = 0 ∧ period = 16) ∨ (v.extractLsb' 1 2 = 1 ∧ period = 8) ∨
      (v.extractLsb' 1 2 = 2 ∧ period = 4) ∨ (v.extractLsb' 1 2 = 3 ∧ period = 1)) :
    adcDivider (field2 v 1) = period := by
  unfold adcDivider field2
  rcases h with ⟨hc, rfl⟩ | ⟨hc, rfl⟩ | ⟨hc, rfl⟩ | ⟨hc, rfl⟩ <;> rw [hc] <;> rfl

/-- The last period of a conversion reads the input that ADCON selects. -/
theorem tick_adc_last {s : State} (hm : s.mode ≠ .stop) (hb : s.adc.busy = true)
    (ht : s.adc.timer ≤ 1) :
    ∃ w : State, w.adc = s.adc ∧ w.pins = s.pins ∧ w.cfg = s.cfg ∧
      (tick s).adc = adcFinish (analogReading w) s.adc := by
  refine ⟨pwmStep (t0Step (btStep { s with div := s.div + 1 })), by simp, by simp, by simp, ?_⟩
  rw [tick_running hm, cloStep_adc, adcStep_adc_last] <;> simp [hb, ht]

/-- A conversion counts down while more than the last of its periods remain. -/
theorem ticks_adc_busy {s : State} (hm : s.mode ≠ .stop) (hb : s.adc.busy = true) {n : Nat}
    (hn : n < s.adc.timer) : (ticks n s).adc = { s.adc with timer := s.adc.timer - n } := by
  induction n with
  | zero => rfl
  | succ n ih =>
    have hadc := ih (by omega)
    rw [ticks_succ', tick_adc_busy (by rwa [ticks_mode]) (by rw [hadc]; exact hb)
      (by rw [hadc]; show 1 < s.adc.timer - n; omega), hadc, Nat.sub_add_eq]

theorem ticks_adc_idle {s : State} (hm : s.mode ≠ .stop) (hb : s.adc.busy = false) (n : Nat) :
    (ticks n s).adc = s.adc := by
  induction n with
  | zero => rfl
  | succ n ih => rw [ticks_succ', tick_adc_idle (by rwa [ticks_mode]) (by rw [ih, hb]), ih]

/-- A conversion ends with its last period, and its result stays. -/
theorem ticks_adc_finish {s : State} (hm : s.mode ≠ .stop) (hb : s.adc.busy = true)
    (ht : 0 < s.adc.timer) {n : Nat} (hn : s.adc.timer ≤ n) :
    ∃ w : State, w.adc.con = s.adc.con ∧ w.pins = s.pins ∧ w.cfg = s.cfg ∧
      ∃ c : Adc, c.con = s.adc.con ∧ (ticks n s).adc = adcFinish (analogReading w) c := by
  obtain ⟨j, hj⟩ := Nat.exists_eq_add_of_lt ht
  obtain ⟨k, rfl⟩ := Nat.exists_eq_add_of_le hn
  rw [Nat.zero_add] at hj
  have hlast : (ticks j s).adc = { s.adc with timer := s.adc.timer - j } :=
    ticks_adc_busy hm hb (by omega)
  have hmode : (ticks j s).mode ≠ .stop := by rwa [ticks_mode]
  obtain ⟨w, hadc, hpins, hcfg, hfinish⟩ := tick_adc_last hmode (by rw [hlast]; exact hb)
    (by rw [hlast]; show s.adc.timer - j ≤ 1; omega)
  refine ⟨w, by rw [hadc, hlast], by rw [hpins, ticks_pins], by rw [hcfg, ticks_cfg],
    (ticks j s).adc, by rw [hlast], ?_⟩
  rw [ticks_add, hj, ticks_succ', ticks_adc_idle (by simpa using hm) (by rw [hfinish]; rfl),
    hfinish]

/-- The reading of a connected channel (R44, R296). -/
theorem analogReading_channel {s : State} {ch : Nat} (h : ch < 9)
    (hch : (s.adc.con.extractLsb' 4 4).toNat = ch) (hc : ch < s.cfg.adcChannels) :
    analogReading s = s.pins.analog[ch] := by
  subst hch
  simp only [analogReading, dif_pos h, if_pos hc]

/-- The reading of a code that is internally grounded is within 3 of 0 (R44, R296). -/
theorem analogReading_grounded {s : State}
    (h : 9 ≤ (s.adc.con.extractLsb' 4 4).toNat ∨
      s.cfg.adcChannels ≤ (s.adc.con.extractLsb' 4 4).toNat) :
    analogReading s = (Config.freeByte s.draws &&& 0x03).zeroExtend 10 := by
  unfold analogReading
  dsimp only
  split
  · rw [if_neg (by omega)]
  · rfl

/-- A reading within 3 of 0 has no upper bits. -/
theorem zeroExtend_low_bits (x : Byte) :
    ((x &&& 0x03).zeroExtend 10).extractLsb' 2 8 = 0 := by
  revert x; decide

/-- The write to ADCON stores the code of the channel as it is (R44). -/
theorem channelCode_and (v : Byte) : (v &&& 0xF6).extractLsb' 4 4 = v.extractLsb' 4 4 := by
  revert v; decide

/-- Settles O58: the countdown of the conversion, then its result. -/
theorem adcConversion : Obligations.AdcConversion := by
  intro s v n period hm hv hcode u
  have hadc : u.adc = { s.adc with
      con := v &&& 0xF6, busy := true, sar := 0x200, timer := 50 * period } := by
    rw [← adcDivider_field2 hcode]
    exact writeAdcon_start hv s.adc
  have hpos : 0 < period := by omega
  have hbusy : u.adc.busy = true := by rw [hadc]
  have htimer : u.adc.timer = 50 * period := by rw [hadc]
  have hcon : u.adc.con = v &&& 0xF6 := by rw [hadc]
  have hmode : u.mode ≠ .stop := hm
  refine ⟨fun hn => ?before, fun hn => ?after⟩
  case before =>
    rw [ticks_adc_busy hmode hbusy (htimer ▸ hn), hadc]
    exact ⟨rfl, by simp, rfl, rfl⟩
  case after =>
    obtain ⟨w, hwcon, hwpins, hwcfg, c, hccon, hfinish⟩ :=
      ticks_adc_finish hmode hbusy (by omega) (htimer ▸ hn)
    have hwcode : w.adc.con.extractLsb' 4 4 = v.extractLsb' 4 4 := by
      rw [hwcon, hcon, channelCode_and]
    have hpins : w.pins = s.pins := hwpins
    have hcfg : w.cfg = s.cfg := hwcfg
    dsimp only
    rw [hfinish]
    refine ⟨rfl, by simp [adcFinish], fun ch h9 hch hconn => ?channel, fun h => ?grounded⟩
    case channel =>
      rw [analogReading_channel h9 (hwcode ▸ hch) (hcfg ▸ hconn), hpins]
      exact ⟨rfl, rfl⟩
    case grounded =>
      refine ⟨?_, adcFinish_datal_and _ c⟩
      rw [analogReading_grounded (by rwa [hwcode, hcfg])]
      exact zeroExtend_low_bits _

end Sys2Proof.Machine
end

section
/-! The power states (60_exceptions.md R242, R243; 70_reset_and_hazards.md R322): what ends IDLE, STOP
and the wait for the oscillator, in a step over any number of periods. -/

namespace Sys2Proof.Machine

/-! ### Wake-up (R243) -/

theorem wakeAllowed_iff (s : State) :
    wakeAllowed s = true ↔ (s.cfg.wakeNeedsGie = true → s.gie = true) := by
  unfold wakeAllowed
  cases s.cfg.wakeNeedsGie <;> simp

theorem wakeIdle_iff (s : State) :
    wakeIdle s = true ↔ s.irq = true ∧ (s.cfg.wakeNeedsGie = true → s.gie = true) := by
  rw [wakeIdle, Bool.and_eq_true, wakeAllowed_iff]

theorem wakeStop_iff (s : State) :
    wakeStop s = true ↔ s.clkcon.getLsbD 7 = false ∧ s.irqExt = true ∧
      (s.cfg.wakeNeedsGie = true → s.gie = true) := by
  rw [wakeStop, Bool.and_eq_true, Bool.and_eq_true, wakeAllowed_iff, Bool.not_eq_true', and_assoc]

/-! ### The step in IDLE and in STOP -/

/-- A step that takes no time. -/
theorem elapseExact_zero_ticks (n : Nat) (s : State) : elapseExact 0 [.ticks n] s = s := by
  have h0 (s : State) : passTime (ticks 0) s = s := ite_self s
  rw [elapseExact, elapseExact, Nat.min_zero, Nat.zero_sub, h0, h0]

theorem elapseFree_ticks {s : State} (h : resetHeld s = false) (n : Nat) :
    elapseFree [.ticks n] s = ticks n s := by
  rw [elapseFree, elapseBy, elapseBy, passTime, h, if_neg Bool.false_ne_true]

theorem stepIdle_ticks {s : State} (h : resetHeld s = false) (n : Nat) :
    stepIdle [.ticks n] s = if wakeIdle s then s.setMode .run else ticks n s := by
  rw [stepIdle, elapseExact_zero_ticks, elapseFree_ticks h]

theorem stepStop_ticks (n : Nat) (s : State) :
    stepStop [.ticks n] s =
      if wakeStop s then { s with mode := .resetWait, bt := { s.bt with stable := false } }
      else s := by
  simp only [stepStop, elapseExact_zero_ticks]

/-! ### The wait for the oscillator -/

theorem stepWait_ticks {s : State} (h : resetHeld s = false) (n : Nat) :
    stepWait [.ticks n] s = if (waitTicks n s).bt.stable then (waitTicks n s).setMode .run
      else waitTicks n s := by
  simp only [stepWait, elapseBy, passTime, h, Bool.false_eq_true, if_false]

/-- The signal of R243 (d) stays. -/
theorem ticks_stable_mono {s : State} {k n : Nat} (hkn : k ≤ n)
    (h : (ticks k s).bt.stable = true) : (ticks n s).bt.stable = true := by
  obtain ⟨j, rfl⟩ := Nat.exists_eq_add_of_le hkn
  rw [ticks_add]
  exact ticks_invariant (P := fun u => u.bt.stable = true) (fun _ => tick_stable) j h

/-- Where the signal has not come after `n` periods, it had not come before. -/
theorem ticks_not_stable_before {s : State} {k n : Nat} (hkn : k ≤ n)
    (h : (ticks n s).bt.stable = false) : (ticks k s).bt.stable = false := by
  cases hk : (ticks k s).bt.stable
  · rfl
  · exact absurd (ticks_stable_mono hkn hk) (by simp [h])

/-- The signal comes in the very period in which BTCNT.4 becomes 1 (R243 (d)). -/
theorem tick_stable_rise {s : State} (hm : s.mode ≠ .stop) (h0 : s.bt.stable = false)
    (h1 : (tick s).bt.stable = true) : (tick s).bt.cnt.getLsbD 4 = true := by
  rw [tick_bt hm] at h1 ⊢
  split at h1
  · rename_i hfires
    rw [if_pos hfires]
    simp only [btTick, h0, Bool.false_or, Bool.and_eq_true] at h1
    exact h1.2
  · rw [h0] at h1
    cases h1

section
variable {s : State} {m n : Nat}

/-- A wait in which the signal does not come. -/
theorem stepWait_not_stable (hheld : resetHeld s = false) (h : (ticks n s).bt.stable = false) :
    stepWait [.ticks n] s = ticks n s := by
  have hwait : waitTicks n s = ticks n s :=
    waitTicks_before fun k hk => ticks_not_stable_before hk.le h
  rw [stepWait_ticks hheld, hwait, h, if_neg Bool.false_ne_true]

/-- A wait past the period `m` goes on from there. -/
theorem waitTicks_from_rise (hmn : m < n) (h0 : (ticks m s).bt.stable = false) :
    waitTicks n s = waitTicks (n - (m + 1)) (ticks (m + 1) s) := by
  have hn : n = m + 1 + (n - (m + 1)) := by omega
  conv_lhs => rw [hn]
  exact waitTicks_add _ fun k hk => ticks_not_stable_before (Nat.le_of_lt_succ hk) h0

/-- Under EXACT the wait ends at the very period in which the signal comes (R326). -/
theorem stepWait_exact (hheld : resetHeld s = false) (hmn : m < n)
    (h0 : (ticks m s).bt.stable = false) (h1 : (ticks (m + 1) s).bt.stable = true)
    (hx : s.cfg.timeModel = .exact) :
    stepWait [.ticks n] s = (ticks (m + 1) s).setMode .run := by
  have hover : waitOver (ticks (m + 1) s) = true := by simp [waitOver, h1, hx]
  rw [stepWait_ticks hheld, waitTicks_from_rise hmn h0, waitTicks_of_over hover, if_pos h1]

/-- Under either time model the wait ends at that period or later while BTCNT.4 is 1. -/
theorem stepWait_stable (hm : s.mode ≠ .stop) (hheld : resetHeld s = false) (hmn : m < n)
    (h0 : (ticks m s).bt.stable = false) (h1 : (ticks (m + 1) s).bt.stable = true) :
    ∃ k, m + 1 ≤ k ∧ k ≤ n ∧ stepWait [.ticks n] s = (ticks k s).setMode .run ∧
      (ticks k s).bt.cnt.getLsbD 4 = true := by
  have h4 : (ticks (m + 1) s).bt.cnt.getLsbD 4 = true := by
    rw [ticks_succ'] at h1 ⊢
    exact tick_stable_rise (by rwa [ticks_mode]) h0 h1
  obtain ⟨j, hj, hwait⟩ := waitTicks_eq (n - (m + 1)) (ticks (m + 1) s)
  obtain ⟨hs, h4'⟩ := waitTicks_stable (n - (m + 1)) h1 h4
  rw [hwait, ← ticks_add] at hs h4'
  refine ⟨m + 1 + j, by omega, by omega, ?_, h4'⟩
  rw [stepWait_ticks hheld, waitTicks_from_rise hmn h0, hwait, ← ticks_add, if_pos hs]

end

/-- Settles O60: the step in each power state over `n` periods. -/
theorem powerStateSteps : Obligations.PowerStateSteps := by
  intro s n hreset wait
  have hheld := resetHeld_of_resetRequest hreset
  refine ⟨fun hm => ?idle, fun hm => ?stop, fun hm => ?resetWait⟩
  case idle =>
    have hstep : stepWith wait s = .next (stepIdle [.ticks n] s) := by
      simp only [stepWith, wait, hreset, hm]
    rw [hstep, stepIdle_ticks hheld, ← wakeIdle_iff]
    exact ⟨fun h => by rw [if_pos h]; rfl, fun h => by rw [if_neg h]⟩
  case stop =>
    have hstep : stepWith wait s = .next (stepStop [.ticks n] s) := by
      simp only [stepWith, wait, hreset, hm]
    rw [hstep, stepStop_ticks, ← wakeStop_iff]
    exact ⟨fun h => by rw [if_pos h], fun h => by rw [if_neg h]⟩
  case resetWait =>
    have hstep : stepWith wait s = .next (stepWait [.ticks n] s) := by
      simp only [stepWith, wait, hreset, hm]
    rw [hstep]
    refine ⟨fun h => by rw [stepWait_not_stable hheld h], fun m hmn h0 h1 => ⟨fun hx => ?_,
      fun _ => ?_⟩⟩
    · rw [stepWait_exact hheld hmn h0 h1 hx]; rfl
    · obtain ⟨k, hmk, hkn, hk, h4⟩ := stepWait_stable (by simp [hm]) hheld hmn h0 h1
      exact ⟨k, hmk, hkn, congrArg Host.Outcome.next hk, h4⟩

end Sys2Proof.Machine
end

section
/-! The reset sources (70_reset_and_hazards.md R320, R322, R324): which reset is requested, and a
pulse that begins and ends inside one step. -/

namespace Sys2Proof.Machine

/-! ### The reset that is requested -/

/-- Neither the supply nor the pin holds the chip, and none has since the last reset (R324). -/
theorem resetHeld_eq_false_iff (s : State) :
    resetHeld s = false ↔ ¬(s.cfg.lvrEnable = true ∧ s.pins.vddLow = true) ∧
      ¬(s.cfg.lvrEnable = false ∧ s.pins.p1.getLsbD 2 = false) ∧ s.pins.resetSeen = false := by
  rw [resetHeld, Bool.or_eq_false_iff, resetActive]
  cases s.cfg.lvrEnable <;> simp [and_comm]

/-- What holds a chip with the LVR. -/
theorem resetHeld_of_lvr {s : State} (hl : s.cfg.lvrEnable = true) (h : resetHeld s = true) :
    s.pins.vddLow = true ∨ s.pins.resetSeen = true := by
  rw [resetHeld, resetActive, if_pos hl, Bool.or_eq_true] at h
  exact h.symm

/-- What holds a chip with the RESET pin. -/
theorem resetHeld_of_pin {s : State} (hl : s.cfg.lvrEnable = false) (h : resetHeld s = true) :
    s.pins.p1.getLsbD 2 = false ∨ s.pins.resetSeen = true := by
  rw [resetHeld, resetActive, hl, if_neg Bool.false_ne_true, Bool.or_eq_true,
    Bool.not_eq_true'] at h
  exact h.symm

theorem resetRequest_eq_none_iff (p : Bool) (s : State) :
    resetRequest p s = none ↔ p = false ∧ resetHeld s = false ∧ s.bt.request = false := by
  unfold resetRequest
  cases p <;> cases resetHeld s <;> cases s.bt.request <;> simp

/-- Everything `resetRequest` can ask for. -/
theorem resetRequest_eq_some {p : Bool} {s : State} {src : ResetSource}
    (h : resetRequest p s = some src) :
    (p = true ∧ src = .powerOn) ∨
    (resetHeld s = true ∧ s.cfg.lvrEnable = true ∧ src = .lvr) ∨
    (resetHeld s = true ∧ s.cfg.lvrEnable = false ∧ src = .resetPin) ∨
    (s.bt.request = true ∧ src = .watchdog) := by
  unfold resetRequest at h
  split at h
  case isTrue hp => exact .inl ⟨hp, (Option.some.inj h).symm⟩
  case isFalse =>
    split at h
    case isTrue hheld =>
      cases hl : s.cfg.lvrEnable <;> simp [hl] at h
      · exact .inr (.inr (.inl ⟨hheld, rfl, h.symm⟩))
      · exact .inr (.inl ⟨hheld, rfl, h.symm⟩)
    case isFalse =>
      split at h
      case isTrue hr => exact .inr (.inr (.inr ⟨hr, (Option.some.inj h).symm⟩))
      case isFalse => cases h

/-- A source seen since the last reset asks for the reset of this chip's external source. -/
theorem resetRequest_of_resetSeen {s : State} (h : s.pins.resetSeen = true) :
    resetRequest false s = some (if s.cfg.lvrEnable then .lvr else .resetPin) := by
  simp [resetRequest, resetHeld, h]

/-- A requested reset is the step in every power state; without events no time passes (R322). -/
theorem stepWith_of_resetRequest {p : Bool} {s : State} {src : ResetSource}
    (h : resetRequest p s = some src) :
    stepWith { powerOn := p, events := [] } s = .next (doReset src s) := by
  have h0 : elapseExact 0 [] (doReset src s) = doReset src s := ite_self _
  simp only [stepWith, h, stepReset, h0]

/-! ### A pulse within one step -/

/-- While a reset source has been seen, the other events act and no period passes (log 54). -/
theorem elapseFree_of_resetSeen (es : List EnvEvent) {s : State}
    (h : s.pins.resetSeen = true) :
    elapseFree es s = es.foldl (fun t e => applyEvent e t) s := by
  unfold elapseFree
  induction es generalizing s with
  | nil => rfl
  | cons e es ih =>
    cases e
    case ticks n =>
      have hheld : resetHeld s = true := by simp [resetHeld, h]
      rw [elapseBy, passTime, if_pos hheld, ih h]
      rfl
    all_goals exact ih (applyEvent_resetSeen _ h)

/-- The RESET pin low is remembered where the LVR is off (R320). -/
theorem applyEvent_pins_resetSeen {s : State} (hl : s.cfg.lvrEnable = false) (a : BitVec 8)
    {b : BitVec 3} (hb : b.getLsbD 2 = false) (c : BitVec 7) :
    (applyEvent (.pins a b c) s).pins.resetSeen = true := by
  have hactive : resetActive (changePins a b c s) = true := by
    show (if s.cfg.lvrEnable then s.pins.vddLow else !b.getLsbD 2) = true
    rw [hl, hb]
    rfl
  simp [applyEvent, noteReset, hactive]

/-- The supply below the LVR level is remembered where the LVR is on (R320). -/
theorem applyEvent_supply_resetSeen {s : State} (hl : s.cfg.lvrEnable = true) :
    (applyEvent (.supply true) s).pins.resetSeen = true := by
  simp [applyEvent, noteReset, resetActive, hl]

/-- A pulse of the pin ends with the reset requested and no period passed. -/
theorem elapseFree_pinPulse {s : State} (hl : s.cfg.lvrEnable = false) (a a' : BitVec 8)
    {b : BitVec 3} (b' : BitVec 3) (hb : b.getLsbD 2 = false) (c c' : BitVec 7) (n : Nat) :
    elapseFree [.pins a b c, .ticks n, .pins a' b' c'] s =
      applyEvent (.pins a' b' c') (applyEvent (.pins a b c) s) :=
  elapseFree_of_resetSeen [.ticks n, .pins a' b' c'] (applyEvent_pins_resetSeen hl a hb c)

/-- A dip of the supply likewise. -/
theorem elapseFree_supplyDip {s : State} (hl : s.cfg.lvrEnable = true) (n : Nat) :
    elapseFree [.supply true, .ticks n, .supply false] s =
      applyEvent (.supply false) (applyEvent (.supply true) s) :=
  elapseFree_of_resetSeen [.ticks n, .supply false] (applyEvent_supply_resetSeen hl)

/-- Settles O54: the sources by what `resetRequest` can ask for, a pulse by what the events do to a
chip that is held in reset. -/
theorem resetSources : Obligations.ResetSources := by
  intro s powerOn
  refine ⟨?none, fun h => ?lvr, fun h => ?pin, fun h => ?watchdog,
    fun _ h => stepWith_of_resetRequest h, fun a a' b b' c c' n hl hb => ?pulse, fun n hl => ?dip⟩
  case none => rw [resetRequest_eq_none_iff, resetHeld_eq_false_iff, and_assoc, and_assoc]
  case lvr =>
    obtain ⟨-, ⟨⟩⟩ | ⟨hheld, hl, -⟩ | ⟨-, -, ⟨⟩⟩ | ⟨-, ⟨⟩⟩ := resetRequest_eq_some h
    exact ⟨hl, resetHeld_of_lvr hl hheld⟩
  case pin =>
    obtain ⟨-, ⟨⟩⟩ | ⟨-, -, ⟨⟩⟩ | ⟨hheld, hl, -⟩ | ⟨-, ⟨⟩⟩ := resetRequest_eq_some h
    exact ⟨hl, resetHeld_of_pin hl hheld⟩
  case watchdog =>
    obtain ⟨-, ⟨⟩⟩ | ⟨-, -, ⟨⟩⟩ | ⟨-, -, ⟨⟩⟩ | ⟨hr, -⟩ := resetRequest_eq_some h
    exact hr
  case pulse =>
    have hseen := applyEvent_resetSeen (.pins a' b' c') (applyEvent_pins_resetSeen hl a hb c)
    simp only [elapseFree_pinPulse hl a a' b' hb c c' n]
    exact ⟨by simp [resetRequest_of_resetSeen hseen, hl], rfl, by simp, by simp⟩
  case dip =>
    have hseen := applyEvent_resetSeen (.supply false) (applyEvent_supply_resetSeen hl)
    simp only [elapseFree_supplyDip hl n]
    exact ⟨by simp [resetRequest_of_resetSeen hseen, hl], rfl, by simp, by simp⟩

end Sys2Proof.Machine
end
